-- ==== Sys2Proof/Word.lean ====
section
/-! DEFINITION. The word types of the block (spec/10_state.md R31, spec/30_encoding.md R80). -/

namespace Sys2Proof

/-- One 8-bit Column: a slot of the ColumnBuffer, or the byte a TICK shifts out (R24, R60). -/
abbrev Column := BitVec 8

/-- One 40-bit command word `W[39:0]` of the producer port (R80). -/
abbrev CommandWord := BitVec 40

/-- The 32-bit argument `ARG = W[31:0]` of a command word (R80). -/
abbrev Arg := BitVec 32

/-- A 4-bit coil-activation pattern; bit `k` is the level of coil output `k` (R45, R162). -/
abbrev CoilPattern := BitVec 4

end Sys2Proof
end

