-- ==== Sys2Proof/Syntax.lean ====
section
/-! DEFINITION. The transitions of the block as instructions: one constructor per row of
spec/opcode_table.json. -/

namespace Sys2Proof

/-- The five commands of the producer port (spec/30_encoding.md R83) and the two events, which have no
word (R87). Operands are the fields of R82. -/
inductive Instr where
  /-- PUSH: append `column` to the ColumnBuffer (R100). -/
  | push (column : Column)
  /-- SETDIR: direction −1 when `dneg`, +1 otherwise (R180). -/
  | setdir (dneg : Bool)
  /-- SETHL: request `n` highlighted steps (R182). -/
  | sethl (n : Arg)
  /-- SETSPEED: `rpm` is the raw binary32 of the rotation speed (R184). -/
  | setspeed (rpm : Arg)
  /-- SHUTDOWN: disarm the timer and halt (R190). -/
  | shutdown
  /-- TICK: one event of the periodic timer (R120). -/
  | tick
  /-- RESET: construction of the driver (R230). -/
  | reset
deriving DecidableEq, Repr

end Sys2Proof
end

