-- ==== Sys2Proof/Decode.lean ====
section
/-! DEFINITION. The command words of the producer port: decoding, total on every 40-bit word
(spec/30_encoding.md R84), and the encoder, from the layouts of R81. -/

namespace Sys2Proof

/-- What the port finds in a word: one of the commands, or the ground on which it is turned away (R85, R86). -/
inductive Decoded where
  /-- The word spells this command. -/
  | command (i : Instr)
  /-- A legal opcode with a nonzero reserved argument bit (R85). -/
  | badArg
  /-- An opcode that no command has (R86). -/
  | illegalOpcode
deriving DecidableEq, Repr

/-- `OP = W[39:32]` (R80). -/
def opOf (w : CommandWord) : BitVec 8 := w.extractLsb' 32 8

/-- `ARG = W[31:0]` (R80). -/
def argOf (w : CommandWord) : Arg := w.extractLsb' 0 32

/-- `column = ARG[7:0]` (R82). -/
def columnOf (arg : Arg) : Column := arg.extractLsb' 0 8

/-- `ARG[31:8]`, reserved in layout B (R81). -/
def byteReserved (arg : Arg) : BitVec 24 := arg.extractLsb' 8 24

/-- `dneg = ARG[0]` (R82). -/
def dnegOf (arg : Arg) : Bool := arg.getLsbD 0

/-- `ARG[31:1]`, reserved in layout D (R81). -/
def directionReserved (arg : Arg) : BitVec 31 := arg.extractLsb' 1 31

/-- The command a word spells, or why it spells none (R84). The check of SETSPEED's operand belongs to the
command (R184), not to decoding. -/
def decode (w : CommandWord) : Decoded :=
  if opOf w = 0x01 then
    if byteReserved (argOf w) = 0 then .command (.push (columnOf (argOf w))) else .badArg
  else if opOf w = 0x02 then
    if directionReserved (argOf w) = 0 then .command (.setdir (dnegOf (argOf w))) else .badArg
  else if opOf w = 0x03 then .command (.sethl (argOf w))
  else if opOf w = 0x04 then .command (.setspeed (argOf w))
  else if opOf w = 0x05 then
    if argOf w = 0 then .command .shutdown else .badArg
  else .illegalOpcode

/-- The opcode of a command (R83); an event has none (R87). -/
def opcode? : Instr → Option (BitVec 8)
  | .push _ => some 0x01
  | .setdir _ => some 0x02
  | .sethl _ => some 0x03
  | .setspeed _ => some 0x04
  | .shutdown => some 0x05
  | .tick => none
  | .reset => none

/-- The argument of a command, its reserved bits 0 (R81); 0 for an event, which has no word. -/
def argument : Instr → Arg
  | .push column => column.setWidth 32
  | .setdir dneg => (BitVec.ofBool dneg).setWidth 32
  | .sethl n => n
  | .setspeed rpm => rpm
  | .shutdown => 0
  | .tick => 0
  | .reset => 0

/-- The word `{OP, ARG}` of a command (R80, R81); an event has none (R87). -/
def encode (i : Instr) : Option CommandWord := (opcode? i).map (· ++ argument i)

/-- The command word of a row of the opcode table: `nbits` bits numbered from 0 at the least significant bit, every
bit above them 0. A command word is one word, so the table's numbering is the word's. -/
def tableWord (nbits w : Nat) : CommandWord := BitVec.ofNat 40 (w % 2 ^ nbits)

/-- The instruction the decoder reads from a row's bits. -/
def decodeTableWord (nbits w : Nat) : Option Instr :=
  match decode (tableWord nbits w) with
  | .command i => some i
  | .badArg => none
  | .illegalOpcode => none

end Sys2Proof
end

