-- ==== Sys2Proof/Config.lean ====
section
/-! DEFINITION. The parameters of the block (spec/00_scope.md R9) and the constants derived from them (R10).
The spec leaves no value to a free constant: every open value is one of these parameters, and every
statement quantifies over all of them (R16). -/

namespace Sys2Proof

/-- `FRONT_PARITY`: which bit positions of a Column belong to the front LED column (R9). -/
inductive Parity where
  | even
  | odd
deriving DecidableEq, Repr

/-- `PUSH_GRANULARITY`: whether a PUSH is one transition or three (R9). -/
inductive Granularity where
  | split
  | atomic
deriving DecidableEq, Repr

/-- The parameters of R9. They are fixed for the life of a block instance (R52); the legal ranges are
`Params.wellFormed`. -/
structure Params where
  /-- `CAP`: the number of slots of the ColumnBuffer. -/
  cap : Nat
  /-- `SPP`: ticks per pixel. -/
  spp : Nat
  /-- `L`: the separation of the two LED columns, in ticks. -/
  columnOffset : Nat
  /-- `S`: steps per rotation. -/
  stepsPerRotation : Nat
  /-- `PHASE_TABLE`: the MotorPhaseTable, eight 4-bit coil patterns (R44, R161). -/
  phaseTable : Vector CoilPattern 8
  /-- `FRONT_PARITY`. -/
  frontParity : Parity
  /-- `PUSH_GRANULARITY`. -/
  pushGranularity : Granularity
  /-- `UNDERRUN_RESET`: the value of `underrun` at reset. -/
  underrunReset : Bool
  /-- `HL_RESET`: the value of `highlightedSteps` at reset (OPEN). -/
  hlReset : BitVec 8
  /-- `STEP_DELAY_RESET`: the value of `stepDelayMs` at reset (OPEN). -/
  stepDelayReset : BitVec 32
  /-- `INIT_SLOTS`: the contents of the slots at reset, one byte a slot (a draw). -/
  initSlots : List Column
deriving DecidableEq, Repr

/-- `CW = ceil(log2(CAP))`, the width in bits of a cursor register (R10). -/
def Params.cursorWidth (p : Params) : Nat := Nat.log2 (p.cap - 1) + 1

/-- `FRONT_MASK` (R10, R124). -/
def Params.frontMask (p : Params) : Column :=
  match p.frontParity with
  | .even => 0x55
  | .odd => 0xAA

/-- `BACK_MASK`, the complement of `FRONT_MASK` (R10, R127). -/
def Params.backMask (p : Params) : Column := ~~~p.frontMask

/-- `BACK_LAG = ceil(L / SPP)` (R10, R41). -/
def Params.backLag (p : Params) : Nat := (p.columnOffset + p.spp - 1) / p.spp

/-- The default phase table: the half-step sequence the spec gives for test vectors (R161). -/
def Params.halfStepTable : Vector CoilPattern 8 :=
  #v[0x1, 0x3, 0x2, 0x6, 0x4, 0xC, 0x8, 0x9]

/-- The configuration of `State.reset`: the reference and default values of R9 and R161.
DESIGN CHOICE (unsafe, notes/assumptions/2.md and 3.md): SPP = 26 and L = 3, which the spec gives only for a
scenario, and HL_RESET = 0, STEP_DELAY_RESET = 0 and all-zero INIT_SLOTS, which the spec leaves open. -/
def Params.reference : Params where
  cap := 16
  spp := 26
  columnOffset := 3
  stepsPerRotation := 4096
  phaseTable := Params.halfStepTable
  frontParity := .even
  pushGranularity := .split
  underrunReset := false
  hlReset := 0
  stepDelayReset := 0
  initSlots := List.replicate 16 0

end Sys2Proof
end

