-- ==== Sys2Proof/WellFormed.lean ====
section
/-! DEFINITION. What is well formed: a configuration in the legal ranges of spec/00_scope.md R9, and an
instruction that can stand on the producer port (spec/30_encoding.md R87). The types of `Instr` already hold every
operand in the range its encoding admits. -/

namespace Sys2Proof

/-- 3 ≤ CAP ≤ 256 (R9). -/
def Params.capOk (p : Params) : Bool := 3 ≤ p.cap && p.cap ≤ 256

/-- 1 ≤ SPP ≤ 255 (R9). -/
def Params.sppOk (p : Params) : Bool := 1 ≤ p.spp && p.spp ≤ 255

/-- 0 ≤ L ≤ 65535 (R9). -/
def Params.offsetOk (p : Params) : Bool := p.columnOffset ≤ 65535

/-- 1 ≤ S ≤ 65535 (R9). -/
def Params.rotationOk (p : Params) : Bool := 1 ≤ p.stepsPerRotation && p.stepsPerRotation ≤ 65535

/-- 0 ≤ HL_RESET ≤ SPP (R9). -/
def Params.hlResetOk (p : Params) : Bool := p.hlReset.toNat ≤ p.spp

/-- INIT_SLOTS is CAP bytes (R9). -/
def Params.initSlotsOk (p : Params) : Bool := p.initSlots.length == p.cap

/-- The configuration is legal: an illegal one gives no instance of the block (R9, R203). -/
def Params.wellFormed (p : Params) : Bool :=
  p.capOk && p.sppOk && p.offsetOk && p.rotationOk && p.hlResetOk && p.initSlotsOk

/-- The instruction is a command word of the producer port; TICK and RESET are events and have none (R87). -/
def Instr.isCommand : Instr → Bool
  | .push _ => true
  | .setdir _ => true
  | .sethl _ => true
  | .setspeed _ => true
  | .shutdown => true
  | .tick => false
  | .reset => false

end Sys2Proof
end

