-- ==== Sys2Proof/Machine/State.lean ====
section
/-! DEFINITION. The state of the block (spec/10_state.md R31, R43, R45 to R47), the reasons a step can stop, and
the state after reset (R56). -/

namespace Sys2Proof.Machine

/-- Why a step stops with a fault. -/
inductive Fault where
  /-- A PUSH or a TICK accessed a slot `index ≥ CAP`, an address that does not exist (R60, R67). Raised by
  `memRead` and `memWrite`. SAFE: the invariant `State.Inv` keeps every cursor below CAP, so no run of an instance
  meets it. -/
  | slotOutOfRange (index : Nat)
deriving DecidableEq, Repr

/-- Why the model gives no next state. -/
inductive Refusal where
  /-- An instruction without a meaning. Raised by no arm: every row of the opcode table has its meaning. Safe. -/
  | notModelled (mnemonic : String)
  /-- A configuration outside the ranges of R9 gives no instance of the block (R203). Raised by `instantiate`
  only, never by a step. Safe. -/
  | illegalConfiguration
deriving DecidableEq, Repr

/-- `pushStage`: how far a split PUSH has got (R47). -/
inductive PushStage where
  /-- No push in flight. -/
  | idle
  /-- The slot is written, `writeEnd` is not yet advanced. -/
  | written
  /-- `writeEnd` is advanced, `underrun` is not yet cleared. -/
  | published
deriving DecidableEq, Repr

/-- The output pins of the LED shift register (R46). -/
inductive Pin where
  | data
  | clk
  | latch
  | oe
deriving DecidableEq, Repr

/-- The observable events of R15. `Frame(b)` is an abbreviation for pin events (`frameEvents`), not an event. -/
inductive Event where
  /-- The response to a command word (R88). -/
  | resp (code : BitVec 8)
  /-- An assignment of an output pin (R135). -/
  | pin (name : Pin) (level : Bool)
  /-- One write of the four coil pins (R166). -/
  | coil (pattern : CoilPattern)
deriving DecidableEq, Repr

/-- One move of the block's surroundings: which agent acts next (R11, R12). -/
inductive Stimulus where
  /-- The producer delivers a command word to the port. -/
  | word (w : CommandWord)
  /-- The producer port takes the next micro-step of the PUSH in flight, if there is one (R104, R105). -/
  | producer
  /-- The periodic timer's turn: a TICK, if it is enabled (R14). -/
  | timer
  /-- RESET (R230). -/
  | reset
deriving DecidableEq, Repr

/-- The state of the block. Every register of R31, the slot array of R43, and three fields of the MODEL's own,
which the spec does not count as state: the parameters, the trace, and the moves of the surroundings that are
still to come. -/
structure State where
  /-- The write cursor (R32). A cursor has CW bits and holds an index below CAP. -/
  writeEnd : Nat
  /-- The front read cursor (R33). -/
  readFront : Nat
  /-- The back read cursor (R34). -/
  readBack : Nat
  /-- The front sweep phase (R35). -/
  pixelStep : BitVec 8
  /-- The back sweep phase (R36). -/
  backStep : BitVec 8
  /-- The LED on-time threshold, register HL (R37, R53). -/
  highlightedSteps : BitVec 8
  /-- The status flag `underrun` (R38). -/
  underrun : Bool
  /-- The motor's coil phase (R39). -/
  phaseIndex : BitVec 3
  /-- `direction` as its one bit, register DIR: −1 when set, +1 when clear (R40, R53). -/
  dneg : Bool
  /-- The tick interval in milliseconds, register STEP_DELAY (R42, R53). -/
  stepDelayMs : BitVec 32
  /-- The levels of the four coil outputs (R45). -/
  coil : CoilPattern
  /-- The pin DATA (R46). -/
  data : Bool
  /-- The pin CLK (R46). -/
  clk : Bool
  /-- The pin LATCH (R46). -/
  latch : Bool
  /-- The pin OE, low (active) for the life of the block (R46). -/
  oe : Bool
  /-- The periodic timer is armed, register TIMER (R50, R53). -/
  timerArmed : Bool
  /-- The block is shut down, register STATE (R51, R53). -/
  halted : Bool
  /-- The progress of a split PUSH (R47). -/
  pushStage : PushStage
  /-- The slots whose contents differ from INIT_SLOTS, by rising index (R43, `Memory.wf`). -/
  slots : List Host.Cell
  /-- MODEL's own: the parameters of this instance, which no transition changes (R52). -/
  params : Params
  /-- MODEL's own: the trace, oldest event first, which no transition reads (R15, R52). -/
  trace : List Event
  /-- MODEL's own: the moves of the surroundings to come, the next one first; the order between the agents is free
  (R12), so it may be any list. -/
  agenda : List Stimulus
deriving DecidableEq, Repr

/-- The state after RESET of a block with parameters `p` (R41, R56), with nothing on the agenda. -/
def State.resetOf (p : Params) : State where
  writeEnd := 0
  readFront := 0
  readBack := ((0 - (p.backLag : Int)) % (p.cap : Int)).toNat
  pixelStep := 0
  backStep := BitVec.ofNat 8 ((p.spp - p.columnOffset % p.spp) % p.spp)
  highlightedSteps := p.hlReset
  underrun := p.underrunReset
  phaseIndex := 0
  dneg := false
  stepDelayMs := p.stepDelayReset
  coil := 0
  data := false
  clk := false
  latch := false
  oe := false
  timerArmed := true
  halted := false
  pushStage := .idle
  slots := []
  params := p
  trace := []
  agenda := []

/-- The machine right after reset, in the reference configuration. -/
def State.reset : State := State.resetOf Params.reference

end Sys2Proof.Machine
end

