-- ==== Sys2Proof/Machine/Ops.lean ====
section
/-! DEFINITION. The named operations over the slots, the outputs and the trace. The block has no exceptions and
no fault state of its own (spec/60_exceptions.md R200): there is no exception entry here, and entering or leaving a TICK
saves and restores nothing (R207, R208). -/

namespace Sys2Proof.Machine

/-- What a slot that no PUSH has written since RESET reads as: its INIT_SLOTS value (R63). -/
def unwrittenSlot (p : Params) (i : Nat) : Column := p.initSlots.getD i 0

/-- The contents of slot `i` (R62). -/
def Memory.read (p : Params) : List Host.Cell → Nat → Column
  | [], i => unwrittenSlot p i
  | (k, x) :: m, i => if k = i then x else Memory.read p m i

/-- The slots with slot `i` set to `v`, in the canonical form (R61). -/
def Memory.write (p : Params) (i : Nat) (v : Column) : List Host.Cell → List Host.Cell
  | [] => if v = unwrittenSlot p i then [] else [(i, v)]
  | (k, x) :: m =>
    if i < k then (if v = unwrittenSlot p i then (k, x) :: m else (i, v) :: (k, x) :: m)
    else if i = k then (if v = unwrittenSlot p i then m else (i, v) :: m)
    else (k, x) :: Memory.write p i v m

/-- The canonical form: indices strictly rising and below CAP, and no entry equal to what the unwritten slot
reads as. -/
abbrev Memory.wf (p : Params) (m : List Host.Cell) : Prop :=
  m.Pairwise (fun c d => c.1 < d.1) ∧ ∀ c ∈ m, c.1 < p.cap ∧ c.2 ≠ unwrittenSlot p c.1

/-- The contents of slot `i` of a state. -/
def State.slot (s : State) (i : Nat) : Column := Memory.read s.params s.slots i

/-- `MemRead(i, 1)` (R62). -/
def memRead (i : Nat) (s : State) : Except Fault Column :=
  if i < s.params.cap then .ok (s.slot i) else .error (.slotOutOfRange i)

/-- `MemWrite(i, 1, v)` (R61). -/
def memWrite (i : Nat) (v : Column) (s : State) : Except Fault State :=
  if i < s.params.cap then .ok { s with slots := Memory.write s.params i v s.slots }
  else .error (.slotOutOfRange i)

/-- A cursor's next index, modulo CAP (R101, R141, R143). -/
def nextIndex (p : Params) (i : Nat) : Nat := (i + 1) % p.cap

/-- A sub-step counter's next value, modulo SPP (R139). -/
def nextStep (p : Params) (k : BitVec 8) : BitVec 8 := BitVec.ofNat 8 ((k.toNat + 1) % p.spp)

/-- `emit(e)` (R21). -/
def emit (e : Event) (s : State) : State := { s with trace := s.trace ++ [e] }

/-- The responses of R88. -/
inductive Response where
  | ok
  | full
  | illegalOpcode
  | badArg
  | halted
deriving DecidableEq, Repr

/-- The 8-bit response codes (R88). -/
def responseCode : Response → BitVec 8
  | .ok => 0x00
  | .full => 0x01
  | .illegalOpcode => 0x80
  | .badArg => 0x81
  | .halted => 0x82

/-- `respond(code)`: the one response of a command word (R21, R88). -/
def respond (r : Response) (s : State) : State := emit (.resp (responseCode r)) s

/-- `PIN <- v; emit Pin(PIN, v)`: every assignment is recorded, also of the level the pin already has (R135). -/
def setPin (name : Pin) (v : Bool) (s : State) : State :=
  { s with
    data := if name = .data then v else s.data
    clk := if name = .clk then v else s.clk
    latch := if name = .latch then v else s.latch
    oe := if name = .oe then v else s.oe
    trace := s.trace ++ [.pin name v] }

/-- The producer port's gate before a command: a halted block answers HALTED before anything else (R84, R89), and
while a PUSH is in flight the port takes no new word (R90, R105), so the state stays as it is. -/
def portCommand (run : State → Host.Outcome State Fault Refusal) (s : State) : Host.Outcome State Fault Refusal :=
  if s.halted then .next (respond .halted s)
  else if s.pushStage = .idle then run s
  else .next s

end Sys2Proof.Machine
end

