-- ==== Sys2Proof/Machine/Operands.lean ====
section
/-! DEFINITION. The operands of the commands (spec/30_encoding.md R82): the direction, the highlighted-step request,
and the binary32 speed with the interval computed from it (spec/43_configuration.md R184, R185). -/

namespace Sys2Proof.Machine

/-- The value of `direction` (R40, R82). -/
def directionValue (dneg : Bool) : Int := if dneg then -1 else 1

/-- `min(n, SPP)`, as `highlightedSteps` holds it (R182). -/
def clampHighlighted (p : Params) (n : Arg) : BitVec 8 := BitVec.ofNat 8 (min n.toNat p.spp)

/-- The sign bit of a binary32 (R82). -/
def signOf (rpm : Arg) : Bool := rpm.getLsbD 31

/-- The biased exponent of a binary32 (R82). -/
def exponentOf (rpm : Arg) : BitVec 8 := rpm.extractLsb' 23 8

/-- The fraction of a binary32 (R82). -/
def fractionOf (rpm : Arg) : BitVec 23 := rpm.extractLsb' 0 23

/-- The number a finite binary32 stands for (R82). The step does not compute with it: `intervalOf` does the same
sum in whole numbers. -/
def rpmValue (rpm : Arg) : ℚ :=
  let sign : ℚ := if signOf rpm then -1 else 1
  let f : ℚ := (fractionOf rpm).toNat
  if exponentOf rpm = 0 then sign * (f / 2 ^ 23) / 2 ^ 126
  else sign * (1 + f / 2 ^ 23) * 2 ^ (exponentOf rpm).toNat / 2 ^ 127

/-- The operand check of SETSPEED: finite and greater than zero (R184). -/
def rpmAccepted (rpm : Arg) : Bool :=
  !signOf rpm && exponentOf rpm != 255 && rpm.extractLsb' 0 31 != 0

/-- The magnitude of a finite binary32 in units of 2^−149, the least subnormal: a whole number for every value
(R82). -/
def rpmUnits (rpm : Arg) : Nat :=
  if exponentOf rpm = 0 then (fractionOf rpm).toNat
  else (2 ^ 23 + (fractionOf rpm).toNat) * 2 ^ ((exponentOf rpm).toNat - 1)

/-- `min(floor(60000 / (rpm · S)), 2^32 − 1)` for an accepted `rpm`: with `rpm = u / 2^149` the quotient is
`60000 · 2^149 / (u · S)`, and the floor of a ratio of whole numbers is their quotient (R185). -/
def intervalOf (p : Params) (rpm : Arg) : BitVec 32 :=
  BitVec.ofNat 32 (min (60000 * 2 ^ 149 / (rpmUnits rpm * p.stepsPerRotation)) (2 ^ 32 - 1))

end Sys2Proof.Machine
end

