-- ==== Sys2Proof/Machine/ConfigurationPort.lean ====
section
/-! DEFINITION. The ConfigurationPort: SETDIR, SETHL, SETSPEED and SHUTDOWN (spec/43_configuration.md). -/

namespace Sys2Proof.Machine

/-- SETDIR (R180). -/
def setDirection (dneg : Bool) (s : State) : Host.Outcome State Fault Refusal :=
  .next (respond .ok { s with dneg := dneg })

/-- SETHL (R182). -/
def setHighlighted (n : Arg) (s : State) : Host.Outcome State Fault Refusal :=
  .next (respond .ok { s with highlightedSteps := clampHighlighted s.params n })

/-- SETSPEED: the operand check, the interval, and the timer armed again, as one transition (R184 to R186). -/
def setSpeed (rpm : Arg) (s : State) : Host.Outcome State Fault Refusal :=
  if rpmAccepted rpm then
    .next (respond .ok { s with stepDelayMs := intervalOf s.params rpm, timerArmed := true })
  else .next (respond .badArg s)

/-- SHUTDOWN (R190). -/
def shutDown (s : State) : Host.Outcome State Fault Refusal :=
  .next (respond .ok { s with timerArmed := false, halted := true })

/-- SETDIR on the producer port (R84, R180). -/
def execSetdir (dneg : Bool) (s : State) : Host.Outcome State Fault Refusal := portCommand (setDirection dneg) s

/-- SETHL on the producer port (R84, R182). -/
def execSethl (n : Arg) (s : State) : Host.Outcome State Fault Refusal := portCommand (setHighlighted n) s

/-- SETSPEED on the producer port (R84, R184). -/
def execSetspeed (rpm : Arg) (s : State) : Host.Outcome State Fault Refusal := portCommand (setSpeed rpm) s

/-- SHUTDOWN on the producer port (R84, R190). -/
def execShutdown (s : State) : Host.Outcome State Fault Refusal := portCommand shutDown s

end Sys2Proof.Machine
end

