-- ==== Sys2Proof/Machine/Flags.lean ====
section
/-! DEFINITION. The tests of the block and its one status flag, `underrun` (spec/10_state.md R38, R48). -/

namespace Sys2Proof.Machine

/-- The full test of PUSH: the write cursor stands two behind the front read cursor (R100). -/
def bufferFull (s : State) : Bool := s.writeEnd == (s.readFront + s.params.cap - 2) % s.params.cap

/-- The number of unread columns, `(writeEnd − readFront) mod CAP` (R48). -/
def unread (s : State) : Nat := (((s.writeEnd : Int) - (s.readFront : Int)) % (s.params.cap : Int)).toNat

/-- The front gate `pixelStep ≤ highlightedSteps` (R123). -/
def frontGate (s : State) : Bool := s.pixelStep.toNat ≤ s.highlightedSteps.toNat

/-- The back gate `backStep ≤ highlightedSteps` (R127). -/
def backGate (s : State) : Bool := s.backStep.toNat ≤ s.highlightedSteps.toNat

/-- `pixelStep` wrapped to 0: it is 0 after step 5 (R140). -/
def frontWrapped (s : State) : Bool := s.pixelStep == 0

/-- `backStep` wrapped to 0: it is 0 after step 5 (R140). -/
def backWrapped (s : State) : Bool := s.backStep == 0

/-- `underrun` after step 6: set by a front wrap that finds `readFront = writeEnd`, else kept (R141, R142). -/
def underrunAfterFront (s : State) : Bool :=
  s.underrun || (frontWrapped s && s.readFront == s.writeEnd)

end Sys2Proof.Machine
end

