-- ==== Sys2Proof/Machine/Push.lean ====
section
/-! DEFINITION. PUSH, the one producer operation of the ColumnBuffer (spec/40_column_buffer.md). -/

namespace Sys2Proof.Machine

/-- The advance of the write cursor (R101, R104). -/
def publishColumn (s : State) : State := { s with writeEnd := nextIndex s.params s.writeEnd }

/-- The end of an accepted PUSH: `underrun` is cleared, whether or not it was set, and the answer is OK
(R102, R105). -/
def acceptPush (s : State) : State := respond .ok { s with underrun := false }

/-- An atomic PUSH: the full test, the write, the advance and the clear in one transition (R100 to R102, R106). -/
def pushAtomic (column : Column) (s : State) : Host.Outcome State Fault Refusal :=
  if bufferFull s then .next (respond .full s)
  else match memWrite s.writeEnd column s with
    | .ok s' => .next (acceptPush (publishColumn s'))
    | .error f => .fault f

/-- Micro-step PUSH_A: the full test and the write (R103). -/
def pushA (column : Column) (s : State) : Host.Outcome State Fault Refusal :=
  if bufferFull s then .next (respond .full s)
  else match memWrite s.writeEnd column s with
    | .ok s' => .next { s' with pushStage := .written }
    | .error f => .fault f

/-- Micro-step PUSH_B: the advance (R104). -/
def pushB (s : State) : State := { publishColumn s with pushStage := .published }

/-- Micro-step PUSH_C: the clear and the answer (R105). -/
def pushC (s : State) : State := acceptPush { s with pushStage := .idle }

/-- The next micro-step of the PUSH in flight; none is enabled when there is no push in flight (R104, R105). -/
def pushContinue (s : State) : State :=
  match s.pushStage with
  | .idle => s
  | .written => pushB s
  | .published => pushC s

/-- The first transition of a PUSH that the port takes (R100, R103, R106). -/
def pushStart (column : Column) (s : State) : Host.Outcome State Fault Refusal :=
  match s.params.pushGranularity with
  | .atomic => pushAtomic column s
  | .split => pushA column s

/-- PUSH: its next transition. With no push in flight that is the whole PUSH (atomic) or PUSH_A (split); with this
push in flight it is PUSH_B or PUSH_C (R103 to R106). -/
def execPush (column : Column) (s : State) : Host.Outcome State Fault Refusal :=
  if s.halted then .next (respond .halted s)
  else match s.pushStage with
    | .idle => pushStart column s
    | .written => .next (pushContinue s)
    | .published => .next (pushContinue s)

end Sys2Proof.Machine
end

