-- ==== Sys2Proof/Machine/Reset.lean ====
section
/-! DEFINITION. RESET, the construction of the driver (spec/70_reset_and_hazards.md R230 to R233), and the
instantiation of a block, which refuses an illegal configuration (spec/60_exceptions.md R203). -/

namespace Sys2Proof.Machine

/-- Every state element at its value of R56, no parameter changed; the moves of the surroundings still to come are
kept, so that a run goes on after a RESET (R230, R231). -/
def resetState (s : State) : State := { State.resetOf s.params with agenda := s.agenda }

/-- RESET: it abandons a PUSH in flight and leaves SHUTDOWN (R230, R231, R51). -/
def execReset (s : State) : Host.Outcome State Fault Refusal := .next (resetState s)

/-- A block with the parameters `p`: the state after its construction, or no instance (R9, R203). -/
def instantiate (p : Params) : Host.Outcome State Fault Refusal :=
  if p.wellFormed then .next (State.resetOf p) else .refused .illegalConfiguration

end Sys2Proof.Machine
end

