-- ==== Sys2Proof/Machine/Tick.lean ====
section
/-! DEFINITION. TICK, the eight steps of the tick sequencer in their order (spec/41_tick_sequencer.md R120,
spec/42_motor_phase_lut.md R160, R166). -/

namespace Sys2Proof.Machine

/-- Step 1: the front contribution (R123, R124). -/
def frontContribution (s : State) : Except Fault Column :=
  if frontGate s then (memRead s.readFront s).map (· &&& s.params.frontMask) else .ok 0

/-- Step 2: the back contribution (R127). -/
def backContribution (s : State) : Except Fault Column :=
  if backGate s then (memRead s.readBack s).map (· &&& s.params.backMask) else .ok 0

/-- Steps 1 and 2: the output byte `out = front | back` (R128). -/
def renderColumn (s : State) : Except Fault Column :=
  match frontContribution s with
  | .error f => .error f
  | .ok front =>
    match backContribution s with
    | .error f => .error f
    | .ok back => .ok (front ||| back)

/-- One bit of the shift: DATA, then CLK up and down (R133). -/
def shiftBit (s : State) (v : Bool) : State := setPin .clk false (setPin .clk true (setPin .data v s))

/-- The bits of a Column in the order they leave, most significant first (R133). -/
def msbFirst (b : Column) : List Bool := [7, 6, 5, 4, 3, 2, 1, 0].map b.getLsbD

/-- Step 3, first half: the shift of the output byte (R133). -/
def shiftColumn (out : Column) (s : State) : State := (msbFirst out).foldl shiftBit s

/-- Step 3, second half: the latch pulse (R134). -/
def pulseLatch (s : State) : State := setPin .latch false (setPin .latch true s)

/-- Step 3: `emit Frame(out)` (R133 to R136). -/
def tickFrame (out : Column) (s : State) : State := pulseLatch (shiftColumn out s)

/-- `Frame(b)`: the 26 pin events that one TICK emits for the byte `b` (R135, R136). -/
def frameEvents (b : Column) : List Event :=
  (msbFirst b).flatMap (fun v => [.pin .data v, .pin .clk true, .pin .clk false]) ++
    [.pin .latch true, .pin .latch false]

/-- `(phaseIndex + direction) mod 8` (R160). -/
def nextPhase (s : State) : BitVec 3 := BitVec.ofInt 3 ((s.phaseIndex.toNat : Int) + directionValue s.dneg)

/-- Step 4: the phase advance, in underrun too (R160). -/
def tickPhase (s : State) : State := { s with phaseIndex := nextPhase s }

/-- Step 5: the sub-step advance, in underrun too (R139). -/
def tickSubSteps (s : State) : State :=
  { s with pixelStep := nextStep s.params s.pixelStep, backStep := nextStep s.params s.backStep }

/-- Step 6: the front cursor and the setting of `underrun` (R141). -/
def tickFront (s : State) : State :=
  { s with
    readFront := if frontWrapped s && s.readFront != s.writeEnd then nextIndex s.params s.readFront else s.readFront
    underrun := underrunAfterFront s }

/-- Step 7: the back cursor, stopped by `underrun` alone (R143, R144). -/
def tickBack (s : State) : State :=
  { s with readBack := if backWrapped s && !s.underrun then nextIndex s.params s.readBack else s.readBack }

/-- The entry of `PHASE_TABLE` at `phaseIndex` (R161, R166). -/
def phasePattern (s : State) : CoilPattern := s.params.phaseTable.get s.phaseIndex.toFin

/-- Step 8: the coil drive; in underrun the coil pins are left unchanged (R166). -/
def tickCoil (s : State) : State :=
  { s with
    coil := if s.underrun then s.coil else phasePattern s
    trace := if s.underrun then s.trace else s.trace ++ [.coil (phasePattern s)] }

/-- Steps 3 to 8 on the rendered byte (R120). -/
def tickAdvance (out : Column) (s : State) : State :=
  tickCoil (tickBack (tickFront (tickSubSteps (tickPhase (tickFrame out s)))))

/-- TICK. It is enabled only while the timer is armed (R14, R120); otherwise no TICK occurs and the state stays as
it is. -/
def execTick (s : State) : Host.Outcome State Fault Refusal :=
  if s.timerArmed then
    match renderColumn s with
    | .ok out => .next (tickAdvance out s)
    | .error f => .fault f
  else .next s

end Sys2Proof.Machine
end

