-- ==== Sys2Proof/Machine/Dispatch.lean ====
section
/-! DEFINITION. One arm for each row of spec/opcode_table.json. -/

namespace Sys2Proof.Machine

def exec (i : Instr) (s : State) : Host.Outcome State Fault Refusal :=
  match i with
  | .push column => Sys2Proof.Machine.execPush column s
  | .setdir dneg => Sys2Proof.Machine.execSetdir dneg s
  | .sethl n => Sys2Proof.Machine.execSethl n s
  | .setspeed rpm => Sys2Proof.Machine.execSetspeed rpm s
  | .shutdown => Sys2Proof.Machine.execShutdown s
  | .tick => Sys2Proof.Machine.execTick s
  | .reset => Sys2Proof.Machine.execReset s

end Sys2Proof.Machine
end

