-- ==== Sys2Proof/Machine/Port.lean ====
section
/-! DEFINITION. The two agents of the block and the order in which they act (spec/00_scope.md R11 to R14): the producer
port, which handles command words (spec/30_encoding.md R84), and the timer. -/

namespace Sys2Proof.Machine

/-- The move of the surroundings that comes next. With nothing on the agenda it is the timer's turn, so that an armed
timer ticks again after any finite delay (R14, weak fairness). -/
def nextStimulus (s : State) : Stimulus := s.agenda.headD .timer

/-- The next move is taken from the agenda. -/
def takeStimulus (s : State) : State := { s with agenda := s.agenda.tail }

/-- The port handles a word: HALTED, then the decoder's verdict, then the command (R84 to R89). -/
def handleWord (w : CommandWord) (s : State) : Host.Outcome State Fault Refusal :=
  if s.halted then .next (respond .halted s)
  else match decode w with
    | .command i => exec i s
    | .badArg => .next (respond .badArg s)
    | .illegalOpcode => .next (respond .illegalOpcode s)

/-- The producer delivers `w`. The port takes it only when no PUSH is in flight (R90); while one is, the port goes on
with that PUSH and the word stays next on the agenda. -/
def deliverWord (w : CommandWord) (s : State) : Host.Outcome State Fault Refusal :=
  if s.pushStage = .idle then handleWord w (takeStimulus s) else .next (pushContinue s)

/-- One transition of the block (R12): the next move of the surroundings and what the block does on it. -/
def transition (s : State) : Host.Outcome State Fault Refusal :=
  match nextStimulus s with
  | .word w => deliverWord w s
  | .producer => .next (pushContinue (takeStimulus s))
  | .timer => exec .tick (takeStimulus s)
  | .reset => exec .reset (takeStimulus s)

/-- The state in which the producer's next move delivers `w` to a port with no PUSH in flight. -/
def offerWord (w : CommandWord) (s : State) : State :=
  { s with agenda := .word w :: s.agenda, pushStage := .idle }

end Sys2Proof.Machine
end

