-- ==== Sys2Proof/Machine/Step.lean ====
section
/-! DEFINITION. One step of the machine: one transition of spec/00_scope.md R12. -/

namespace Sys2Proof.Machine

/-- One transition of the block. -/
def step (s : State) : Host.Outcome State Fault Refusal := transition s

/-- The state whose next step handles the command word of a table row. -/
def State.withFetchWord (s : State) (nbits w : Nat) : State := offerWord (tableWord nbits w) s

end Sys2Proof.Machine
end

