-- ==== Sys2Proof/Machine/Assembly.lean ====
section
/-! DEFINITION. The assembly syntax of spec/30_encoding.md R91 and R92 as data: what each line of a listing makes the
surroundings of the block do. The block itself never reads it. -/

namespace Sys2Proof.Machine

/-- A decimal literal: `digits / 10^places`, negative when `negative`. -/
structure Decimal where
  negative : Bool
  digits : Nat
  places : Nat
deriving DecidableEq, Repr

/-- One line of a listing (R91, R92). -/
inductive AsmLine where
  /-- `PUSH <c>`. -/
  | push (c : Column)
  /-- `SETDIR -1` when `dneg`, `SETDIR +1` otherwise. -/
  | setdir (dneg : Bool)
  /-- `SETHL <n>`. -/
  | sethl (n : Arg)
  /-- `SETSPEED <r>`. -/
  | setspeed (r : Decimal)
  /-- `SETSPEED.bits <h>`. -/
  | setspeedBits (h : Arg)
  /-- `SHUTDOWN`. -/
  | shutdown
  /-- `.word40 <h>`. -/
  | word40 (h : CommandWord)
  /-- `TICK`. -/
  | tick
  /-- `RESET`. -/
  | reset
  /-- `PUSHS c1, …, ck`. -/
  | pushs (cs : List Column)
  /-- `TICKS n`. -/
  | ticks (n : Nat)
deriving DecidableEq, Repr

/-- The quotient of two whole numbers rounded to the nearest, ties to even. -/
def roundHalfEven (n d : Nat) : Nat :=
  let q := n / d
  let r := n % d
  if 2 * r < d then q
  else if 2 * r = d then q + q % 2
  else q + 1

/-- A decimal literal rounded to the nearest binary32, ties to even (R91). In units of 2^−149 the value is `n / d`; with
`k` the exponent that leaves 24 significant bits, the bits are `k · 2^23` plus the rounded significand, and a value
past the largest finite one rounds to infinity. -/
def nearestBinary32 (r : Decimal) : Arg :=
  let n := r.digits * 2 ^ 149
  let d := 10 ^ r.places
  let k := Nat.log2 (n / d) - 23
  let bits := min (k * 2 ^ 23 + roundHalfEven n (d * 2 ^ k)) 0x7F800000
  BitVec.ofNat 32 (bits + if r.negative then 2 ^ 31 else 0)

/-- A command word, followed by the turns the producer port needs to finish it when no TICK falls inside it: two more
for a split PUSH, which do nothing after any other word. -/
def wholeWord (w : CommandWord) : List Stimulus := [.word w, .producer, .producer]

/-- The moves of an instruction: its word on the port, or the event itself (R87). -/
def instrMoves (i : Instr) : List Stimulus :=
  match i with
  | .tick => [.timer]
  | .reset => [.reset]
  | .push _ => ((encode i).map wholeWord).getD []
  | .setdir _ => ((encode i).map wholeWord).getD []
  | .sethl _ => ((encode i).map wholeWord).getD []
  | .setspeed _ => ((encode i).map wholeWord).getD []
  | .shutdown => ((encode i).map wholeWord).getD []

/-- The moves of one line (R91, R92). -/
def lineMoves : AsmLine → List Stimulus
  | .push c => instrMoves (.push c)
  | .setdir dneg => instrMoves (.setdir dneg)
  | .sethl n => instrMoves (.sethl n)
  | .setspeed r => instrMoves (.setspeed (nearestBinary32 r))
  | .setspeedBits h => instrMoves (.setspeed h)
  | .shutdown => instrMoves .shutdown
  | .word40 h => wholeWord h
  | .tick => instrMoves .tick
  | .reset => instrMoves .reset
  | .pushs cs => cs.flatMap (fun c => instrMoves (.push c))
  | .ticks n => List.replicate n .timer

/-- The agenda of a listing: no TICK falls between two commands unless a line says so (R92). -/
def listingMoves (lines : List AsmLine) : List Stimulus := lines.flatMap lineMoves

end Sys2Proof.Machine
end

