-- ==== Sys2Proof/Safety.lean ====
section
/-! DEFINITION. What a good state of the block is (spec/10_state.md R49), and the words in which claims about several
transitions are put. -/

namespace Sys2Proof.Machine

/-- Every cursor is a slot index (R31, R49 item 5). -/
abbrev State.CursorsInRange (s : State) : Prop :=
  s.writeEnd < s.params.cap ∧ s.readFront < s.params.cap ∧ s.readBack < s.params.cap

/-- The sweep phases and the threshold are in their ranges (R31, R49 item 5). -/
abbrev State.SweepInRange (s : State) : Prop :=
  s.pixelStep.toNat < s.params.spp ∧ s.backStep.toNat < s.params.spp ∧ s.highlightedSteps.toNat ≤ s.params.spp

/-- `backStep = (pixelStep − L) mod SPP` (R49 item 2). -/
abbrev State.SweepOffset (s : State) : Prop :=
  (s.backStep.toNat : Int) = ((s.pixelStep.toNat : Int) - (s.params.columnOffset : Int)) % (s.params.spp : Int)

/-- At most CAP − 2 unread columns (R49 item 1), and one fewer while a written column waits to be published. -/
abbrev State.UnreadBounded (s : State) : Prop :=
  unread s + 2 ≤ s.params.cap ∧ (s.pushStage = .written → unread s + 3 ≤ s.params.cap)

/-- In underrun the front cursor stands on the write cursor, except while a push is PUBLISHED (R49 item 4). -/
abbrev State.UnderrunMeansEmpty (s : State) : Prop :=
  s.underrun = true → s.readFront = s.writeEnd ∨ s.pushStage = .published

/-- `pushStage` is IDLE in an atomic block (R47), and in a halted one. -/
abbrev State.PushStageLegal (s : State) : Prop :=
  (s.params.pushGranularity = .atomic → s.pushStage = .idle) ∧ (s.halted = true → s.pushStage = .idle)

/-- Between transitions CLK and LATCH are low (R133, R134), and OE is low for life (R46). -/
abbrev State.PinsAtRest (s : State) : Prop := s.clk = false ∧ s.latch = false ∧ s.oe = false

/-- The timer is armed exactly while the block is not halted (R50, R51). -/
abbrev State.TimerMatchesHalt (s : State) : Prop := s.timerArmed = !s.halted

/-- The invariant of every run of a legal instance (R49, with the model's own clauses on memory, pins and timer). -/
abbrev State.Inv (s : State) : Prop :=
  s.params.wellFormed = true ∧ s.CursorsInRange ∧ s.SweepInRange ∧ s.SweepOffset ∧ s.UnreadBounded ∧
    s.UnderrunMeansEmpty ∧ s.PushStageLegal ∧ s.PinsAtRest ∧ s.TimerMatchesHalt ∧ Memory.wf s.params s.slots

/-- The state after `n` TICK events with nothing between them; none if one of them stops. -/
def runTicks : Nat → State → Option State
  | 0, s => some s
  | n + 1, s =>
    match exec .tick s with
    | .next t => runTicks n t
    | .fault _ => none
    | .refused _ => none

/-- The state after at most `n` transitions of `PUSH column` that end it. -/
def pushWithin (column : Column) : Nat → State → Option State
  | 0, _ => none
  | n + 1, s =>
    match exec (.push column) s with
    | .next t => if t.pushStage = .idle then some t else pushWithin column n t
    | .fault _ => none
    | .refused _ => none

/-- The state after the whole of `PUSH column`, one transition or three, with no TICK inside it. -/
def wholePush (column : Column) (s : State) : Option State := pushWithin column 3 s

/-- The state after a PUSH of each column in turn, with no TICK between them. -/
def pushColumns : List Column → State → Option State
  | [], s => some s
  | c :: cs, s => (wholePush c s).bind (pushColumns cs)

/-- How many of the next `n` steps start in a state where `holds` is true. -/
def countSteps (holds : State → Bool) : Nat → State → Nat
  | 0, _ => 0
  | n + 1, s =>
    (if holds s then 1 else 0) +
      match step s with
      | .next t => countSteps holds n t
      | .fault _ => 0
      | .refused _ => 0

/-- The next step is a TICK that takes place. -/
def tickIsNext (s : State) : Bool := nextStimulus s == .timer && s.timerArmed

/-- The next step is a TICK at whose front wrap step 6 runs (R140, R141). -/
def frontWrapIsNext (s : State) : Bool := tickIsNext s && nextStep s.params s.pixelStep == 0

/-- The next step is a TICK at whose back wrap step 7 runs (R140, R143). -/
def backWrapIsNext (s : State) : Bool := tickIsNext s && nextStep s.params s.backStep == 0

/-- A front wrap that finds `readFront = writeEnd`, so the front cursor is stopped: the `Ff` of R247. -/
def frontStopIsNext (s : State) : Bool := frontWrapIsNext s && s.readFront == s.writeEnd

/-- `underrun` as steps 7 and 8 of a TICK that starts in `s` read it: after step 6 of that TICK (R141, R143, R166). -/
def underrunAfterTick (s : State) : Bool :=
  s.underrun || (nextStep s.params s.pixelStep == 0 && s.readFront == s.writeEnd)

/-- A back wrap at which step 7 finds `underrun = 1`, so the back cursor is stopped: the `Bf` of R247. -/
def backStopIsNext (s : State) : Bool := backWrapIsNext s && underrunAfterTick s

/-- An outcome with its next state seen through `view`. -/
def seenThrough (view : State → State) : Host.Outcome State Fault Refusal → Host.Outcome State Fault Refusal
  | .next t => .next (view t)
  | .fault f => .fault f
  | .refused r => .refused r

/-- 1 while a PUSH is in flight: its word is taken and not yet answered (R90). -/
def unansweredPush (s : State) : Nat := if s.pushStage = .idle then 0 else 1

/-- The entry of `PHASE_TABLE` a whole number names, modulo 8 (R20, R161). -/
def tableAt (p : Params) (k : Int) : CoilPattern := p.phaseTable.toList.getD (k % 8).toNat 0

/-- How many responses a trace holds. -/
def responsesIn (trace : List Event) : Nat :=
  trace.countP (fun e => match e with | .resp _ => true | .pin _ _ => false | .coil _ => false)

/-- How many command words an agenda holds. -/
def wordsIn (agenda : List Stimulus) : Nat :=
  agenda.countP (fun m => match m with | .word _ => true | .producer => false | .timer => false | .reset => false)

/-- The coil patterns a trace holds, oldest first. -/
def coilsIn (trace : List Event) : List CoilPattern :=
  trace.filterMap (fun e => match e with | .coil c => some c | .resp _ => none | .pin _ _ => none)

end Sys2Proof.Machine
end

