-- ==== Sys2Proof/Certificates/Slice0/Obligations.lean ====
section
/-! DEFINITION. The statements for the provers, from the numbered rules of spec/. The response codes are written as the
numbers of spec/30_encoding.md R88: OK 0x00, FULL 0x01, ILLEGAL_OPCODE 0x80, BAD_ARG 0x81, HALTED 0x82. -/

open Sys2Proof Sys2Proof.Machine

/-! ### Command words -/

/-- The encoding examples of R93 decode to the commands they stand for, and its two bad words are turned away. -/
def Obligations.WrittenWordsDecodeToTheirCommands : Prop :=
  decode 0x01000000A5 = .command (.push 0xA5) ∧
    decode 0x0200000001 = .command (.setdir true) ∧
    decode 0x030000012C = .command (.sethl 300) ∧
    decode 0x043F800000 = .command (.setspeed 0x3F800000) ∧
    decode 0x0440A00000 = .command (.setspeed 0x40A00000) ∧
    decode 0x0500000000 = .command .shutdown ∧
    decode 0x0100000100 = .badArg ∧
    decode 0x0000000000 = .illegalOpcode

/-- Decoding the word of a command gives the command back, at every value of every operand (R81 to R83). -/
def Obligations.DecodeInvertsEncode : Prop :=
  ∀ (i : Instr) (w : CommandWord), encode i = some w → decode w = .command i

/-- A word that decodes to a command is that command's one word: no other word spells it (R81 to R86). -/
def Obligations.EncodeInvertsDecode : Prop :=
  ∀ (w : CommandWord) (i : Instr), decode w = .command i → encode i = some w

/-- TICK and RESET are no command words: no word decodes to one, and neither has a word (R87). -/
def Obligations.EventsHaveNoCommandWord : Prop :=
  (∀ w : CommandWord, decode w ≠ .command .tick ∧ decode w ≠ .command .reset) ∧
    ∀ i : Instr, encode i = none ↔ i.isCommand = false

/-- The port's handling of every word, with the fields of the word as whole numbers (R84). -/
def Obligations.PortHandlesEveryWord : Prop :=
  ∀ (s : State) (w : CommandWord), nextStimulus s = .word w → s.pushStage = .idle →
    let s' : State := { s with agenda := s.agenda.tail }
    let answer (code : BitVec 8) : Host.Outcome State Fault Refusal :=
      .next { s' with trace := s.trace ++ [.resp code] }
    let op := w.toNat / 2 ^ 32
    let arg := w.toNat % 2 ^ 32
    step s =
      if s.halted = true then answer 0x82
      else if op = 1 then
        if arg / 2 ^ 8 ≠ 0 then answer 0x81 else exec (.push (BitVec.ofNat 8 arg)) s'
      else if op = 2 then
        if arg / 2 ≠ 0 then answer 0x81 else exec (.setdir (decide (arg = 1))) s'
      else if op = 3 then exec (.sethl (BitVec.ofNat 32 arg)) s'
      else if op = 4 then exec (.setspeed (BitVec.ofNat 32 arg)) s'
      else if op = 5 then
        if arg ≠ 0 then answer 0x81 else exec .shutdown s'
      else answer 0x80

/-- A step runs the decoded instruction: the word an idle port takes, the timer's TICK, or RESET, with the move taken
from the agenda; and a table word placed by `withFetchWord` runs next (R12, R84). The order of the moves is the model's
agenda (notes/assumptions/7.md). The `withFetchWord` clause is the model's choice too: it stands for the delivery of a
word, and it sets `pushStage` to IDLE, which drops a push in flight (notes/assumptions/13.md). -/
def Obligations.StepRunsTheDecodedInstruction : Prop :=
  (∀ (s : State) (w : CommandWord) (i : Instr),
      nextStimulus s = .word w → s.pushStage = .idle → decode w = .command i →
        step s = exec i { s with agenda := s.agenda.tail }) ∧
    (∀ s : State, nextStimulus s = .timer → step s = exec .tick { s with agenda := s.agenda.tail }) ∧
    (∀ s : State, nextStimulus s = .reset → step s = exec .reset { s with agenda := s.agenda.tail }) ∧
    ∀ (s : State) (nbits w : Nat) (i : Instr), decodeTableWord nbits w = some i →
      step (s.withFetchWord nbits w) = exec i { s with pushStage := .idle }

/-- While halted, the block answers every word HALTED and ticks no more; nothing but RESET has another effect
(R51, R191). That a timer's turn on the disarmed timer and a producer's turn with no push in flight are next states in
which only the agenda is shorter is the model's choice (notes/assumptions/8.md and 7.md). -/
def Obligations.HaltedBlockOnlyAnswersHalted : Prop :=
  (∀ (i : Instr) (s : State), i.isCommand = true → s.halted = true →
      exec i s = .next { s with trace := s.trace ++ [.resp 0x82] }) ∧
    ∀ s : State, s.Inv → s.halted = true → nextStimulus s ≠ .reset →
      step s = .next
        { s with
          agenda := s.agenda.tail
          trace := s.trace ++ if wordsIn (s.agenda.take 1) = 1 then [.resp 0x82] else [] }

/-! ### PUSH -/

/-- A PUSH to a full buffer, in either granularity, is answered FULL and changes nothing else (R100, R103). -/
def Obligations.FullBufferTurnsPushAway : Prop :=
  ∀ (c : Column) (s : State), s.halted = false → s.pushStage = .idle →
    s.writeEnd = (s.readFront + s.params.cap - 2) % s.params.cap →
      exec (.push c) s = .next { s with trace := s.trace ++ [.resp 0x01] }

/-- An atomic PUSH that is not turned away: it writes `SLOT[writeEnd]` and no other slot, advances `writeEnd`, clears
`underrun` and answers OK, and leaves every other field as it is (R101, R102, R106). -/
def Obligations.AtomicPushWritesAndPublishes : Prop :=
  ∀ (c : Column) (s : State), s.halted = false → s.pushStage = .idle → s.params.pushGranularity = .atomic →
    Memory.wf s.params s.slots → s.writeEnd < s.params.cap →
    s.writeEnd ≠ (s.readFront + s.params.cap - 2) % s.params.cap →
      ∃ m : List Host.Cell,
        exec (.push c) s = .next
          { s with
            slots := m
            writeEnd := (s.writeEnd + 1) % s.params.cap
            underrun := false
            trace := s.trace ++ [.resp 0x00] } ∧
        ∀ a : Nat, Memory.read s.params m a = if a = s.writeEnd then c else s.slot a

/-- PUSH_A that is not turned away: it writes `SLOT[writeEnd]` and no other slot, and gives no answer yet (R103). -/
def Obligations.SplitPushWritesFirst : Prop :=
  ∀ (c : Column) (s : State), s.halted = false → s.pushStage = .idle → s.params.pushGranularity = .split →
    Memory.wf s.params s.slots → s.writeEnd < s.params.cap →
    s.writeEnd ≠ (s.readFront + s.params.cap - 2) % s.params.cap →
      ∃ m : List Host.Cell,
        exec (.push c) s = .next { s with slots := m, pushStage := .written } ∧
        ∀ a : Nat, Memory.read s.params m a = if a = s.writeEnd then c else s.slot a

/-- PUSH_B and PUSH_C, as the meaning of PUSH in flight and as the producer's turns; a producer turn with no push in
flight does nothing, and a new word is not taken while a push is in flight (R90, R104, R105). That `exec` of PUSH in
flight is its next micro-step is the model's choice (notes/assumptions/10.md); so is it that a word offered meanwhile
gives a micro-step and that a producer turn with no push in flight only shortens the agenda (notes/assumptions/7.md). -/
def Obligations.PushMicroStepsPublishThenAnswer : Prop :=
  (∀ (c : Column) (s : State), s.halted = false → s.pushStage = .written →
      exec (.push c) s = .next
        { s with writeEnd := (s.writeEnd + 1) % s.params.cap, pushStage := .published }) ∧
    (∀ (c : Column) (s : State), s.halted = false → s.pushStage = .published →
      exec (.push c) s = .next
        { s with underrun := false, pushStage := .idle, trace := s.trace ++ [.resp 0x00] }) ∧
    (∀ (c : Column) (s : State), s.halted = false → s.pushStage ≠ .idle → nextStimulus s = .producer →
      step s = exec (.push c) { s with agenda := s.agenda.tail }) ∧
    (∀ (c : Column) (w : CommandWord) (s : State), s.halted = false → s.pushStage ≠ .idle → nextStimulus s = .word w →
      step s = exec (.push c) s) ∧
    ∀ s : State, s.pushStage = .idle → nextStimulus s = .producer →
      step s = .next { s with agenda := s.agenda.tail }

/-- A split PUSH with no TICK inside it ends in the state of the atomic PUSH, whether it is accepted or turned away
(R106). -/
def Obligations.SplitPushRefinesAtomicPush : Prop :=
  ∀ (c : Column) (s : State), s.halted = false → s.pushStage = .idle → s.writeEnd < s.params.cap →
    let asGranularity (g : Granularity) (u : State) : State :=
      { u with params := { u.params with pushGranularity := g } }
    ∃ t : State, wholePush c (asGranularity .atomic s) = some (asGranularity .atomic t) ∧
      wholePush c (asGranularity .split s) = some (asGranularity .split t) ∧
      exec (.push c) (asGranularity .atomic s) = .next (asGranularity .atomic t)

/-- From an empty buffer exactly CAP − 2 PUSHes in a row are accepted and the next is answered FULL; the columns stand
in the slots in push order, and the two slots behind the front cursor are unwritten (R108). -/
def Obligations.BufferTakesCapMinusTwoColumns : Prop :=
  ∀ (s : State) (cs : List Column), s.params.wellFormed = true → s.halted = false → s.pushStage = .idle →
    Memory.wf s.params s.slots → s.writeEnd < s.params.cap → s.readFront = s.writeEnd →
    cs.length + 2 = s.params.cap →
      ∃ t : State, pushColumns cs s = some t ∧
        t.trace = s.trace ++ List.replicate cs.length (.resp 0x00) ∧
        t.readFront = s.readFront ∧
        (∀ k : Nat, k < cs.length → t.slot ((s.writeEnd + k) % s.params.cap) = cs.getD k 0) ∧
        (∀ d : Nat, d = 1 ∨ d = 2 →
          t.slot ((s.readFront + s.params.cap - d) % s.params.cap) =
            s.slot ((s.readFront + s.params.cap - d) % s.params.cap)) ∧
        ∀ c : Column, exec (.push c) t = .next { t with trace := t.trace ++ [.resp 0x01] }

/-- After one advance of `readFront` a full buffer takes exactly one more PUSH (R109). -/
def Obligations.OneAdvanceMakesRoomForOnePush : Prop :=
  ∀ (c d : Column) (s : State), s.params.wellFormed = true → s.halted = false → s.pushStage = .idle →
    s.writeEnd < s.params.cap → s.readFront < s.params.cap → bufferFull s = true →
      ∃ t : State, wholePush c { s with readFront := (s.readFront + 1) % s.params.cap } = some t ∧
        t.trace = s.trace ++ [.resp 0x00] ∧
        exec (.push d) t = .next { t with trace := t.trace ++ [.resp 0x01] }

/-- A PUSH in underrun is never FULL: the whole of it is accepted and clears `underrun` (R110 item 5). -/
def Obligations.PushInUnderrunIsAccepted : Prop :=
  ∀ (c : Column) (s : State), s.Inv → s.halted = false → s.pushStage = .idle → s.underrun = true →
    ∃ t : State, wholePush c s = some t ∧ t.underrun = false ∧ t.pushStage = .idle ∧
      t.trace = s.trace ++ [.resp 0x00] ∧ t.slot s.writeEnd = c ∧
      t.writeEnd = (s.writeEnd + 1) % s.params.cap

/-- No transition of the producer writes the two slots behind the front read cursor (R70). -/
def Obligations.PushSparesTheTwoSlotsBehindFront : Prop :=
  ∀ (s t : State) (d : Nat), s.Inv → nextStimulus s ≠ .reset → step s = .next t → d = 1 ∨ d = 2 →
    t.slot ((s.readFront + s.params.cap - d) % s.params.cap) =
      s.slot ((s.readFront + s.params.cap - d) % s.params.cap)

/-- A column that PUSH_A has written to an empty buffer shows in the front contribution before it is published
(R72, R110 item 1). -/
def Obligations.WrittenColumnShowsBeforeItIsPublished : Prop :=
  ∀ (c : Column) (s t : State), s.halted = false → s.pushStage = .idle → s.params.pushGranularity = .split →
    Memory.wf s.params s.slots → s.readFront = s.writeEnd → 3 ≤ s.params.cap → exec (.push c) s = .next t →
    s.pixelStep.toNat ≤ s.highlightedSteps.toNat →
      t.writeEnd = s.writeEnd ∧ frontContribution t = .ok (c &&& s.params.frontMask)

/-! ### TICK -/

/-- The whole of one TICK: the rendered byte, the frame, the phase, the sub-steps, the two cursors, `underrun` and the
coils, in the order of the eight steps; everything else is unchanged (R120, R139, R141, R143, R160, R166). -/
def Obligations.TickPerformsItsEightSteps : Prop :=
  ∀ s : State, s.timerArmed = true → s.readFront < s.params.cap → s.readBack < s.params.cap →
    let front : Column := if s.pixelStep.toNat ≤ s.highlightedSteps.toNat then s.slot s.readFront &&& s.params.frontMask else 0
    let back : Column := if s.backStep.toNat ≤ s.highlightedSteps.toNat then s.slot s.readBack &&& s.params.backMask else 0
    let out : Column := front ||| back
    let phase : BitVec 3 := BitVec.ofNat 3 (((s.phaseIndex.toNat : Int) + if s.dneg then -1 else 1) % 8).toNat
    let ps : BitVec 8 := BitVec.ofNat 8 ((s.pixelStep.toNat + 1) % s.params.spp)
    let bs : BitVec 8 := BitVec.ofNat 8 ((s.backStep.toNat + 1) % s.params.spp)
    let ur : Bool := s.underrun || (decide (ps = 0) && decide (s.readFront = s.writeEnd))
    let pattern : CoilPattern := s.params.phaseTable.toList.getD phase.toNat 0
    exec .tick s = .next
      { s with
        data := out.getLsbD 0
        clk := false
        latch := false
        phaseIndex := phase
        pixelStep := ps
        backStep := bs
        readFront := if ps = 0 ∧ s.readFront ≠ s.writeEnd then (s.readFront + 1) % s.params.cap else s.readFront
        underrun := ur
        readBack := if bs = 0 ∧ ur = false then (s.readBack + 1) % s.params.cap else s.readBack
        coil := if ur = false then pattern else s.coil
        trace := s.trace ++ frameEvents out ++ if ur = false then [.coil pattern] else [] }

/-- Each bit of the rendered byte comes from the column its position belongs to, behind that column's gate
(R124, R127, R128). -/
def Obligations.RenderedBitsComeFromTheirColumns : Prop :=
  ∀ (s : State) (out : Column) (i : Nat), renderColumn s = .ok out → i < 8 →
    out.getLsbD i =
      if (i % 2 = 0 ↔ s.params.frontParity = .even) then
        decide (s.pixelStep.toNat ≤ s.highlightedSteps.toNat) && (s.slot s.readFront).getLsbD i
      else decide (s.backStep.toNat ≤ s.highlightedSteps.toNat) && (s.slot s.readBack).getLsbD i

/-- The events of one TICK, one by one: eight bits, most significant first, each with its clock pulse, then the latch
pulse, then the coil write if there is one (R133 to R137, R167). -/
def Obligations.TickShiftsLatchesThenDrives : Prop :=
  ∀ (s t : State) (out : Column), s.timerArmed = true → renderColumn s = .ok out → exec .tick s = .next t →
    t.trace.take s.trace.length = s.trace ∧
      (∀ k : Nat, k < 8 →
        t.trace[s.trace.length + 3 * k]? = some (.pin .data (out.getLsbD (7 - k))) ∧
          t.trace[s.trace.length + 3 * k + 1]? = some (.pin .clk true) ∧
          t.trace[s.trace.length + 3 * k + 2]? = some (.pin .clk false)) ∧
      t.trace[s.trace.length + 24]? = some (.pin .latch true) ∧
      t.trace[s.trace.length + 25]? = some (.pin .latch false) ∧
      t.trace.drop (s.trace.length + 26) = if t.underrun then [] else [.coil t.coil]

/-- A disarmed timer gives no TICK: the event changes nothing. The model's reading of "enabled" (notes/assumptions/8.md). -/
def Obligations.DisarmedTimerDoesNotTick : Prop :=
  ∀ s : State, s.timerArmed = false → exec .tick s = .next s

/-- In underrun, with no push in flight, a TICK still renders, counts and turns the phase, but moves no cursor and
writes no coil (R125, R147). -/
def Obligations.UnderrunStopsCursorsAndCoilsOnly : Prop :=
  ∀ s t : State, s.Inv → s.timerArmed = true → s.underrun = true → s.pushStage ≠ .published → exec .tick s = .next t →
    t.underrun = true ∧ t.readFront = s.readFront ∧ t.readBack = s.readBack ∧ t.coil = s.coil ∧
      t.pixelStep.toNat = (s.pixelStep.toNat + 1) % s.params.spp ∧
      t.backStep.toNat = (s.backStep.toNat + 1) % s.params.spp ∧
      (t.phaseIndex.toNat : Int) = ((s.phaseIndex.toNat : Int) + directionValue s.dneg) % 8 ∧
      ∃ out : Column, renderColumn s = .ok out ∧ t.trace = s.trace ++ frameEvents out

/-- The TICK that sets `underrun` moves neither cursor and writes no coil (R141, R143, R166). -/
def Obligations.TickThatSetsUnderrunAlreadyStops : Prop :=
  ∀ s t : State, exec .tick s = .next t → s.underrun = false → t.underrun = true →
    t.pixelStep = 0 ∧ s.readFront = s.writeEnd ∧ t.readFront = s.readFront ∧ t.readBack = s.readBack ∧
      t.coil = s.coil ∧ coilsIn t.trace = coilsIn s.trace

/-- Between PUSH_B and PUSH_C a front wrap moves the front cursor although `underrun` is still set, and the coils are not
driven (R142 item 1, R168 item 5). -/
def Obligations.TickBetweenPublishAndClear : Prop :=
  ∀ s t : State, s.Inv → s.timerArmed = true → s.pushStage = .published → s.underrun = true →
    s.readFront ≠ s.writeEnd → (s.pixelStep.toNat + 1) % s.params.spp = 0 → exec .tick s = .next t →
      t.readFront = (s.readFront + 1) % s.params.cap ∧ t.underrun = true ∧ t.readBack = s.readBack ∧
        t.coil = s.coil ∧ coilsIn t.trace = coilsIn s.trace

/-- A TICK moves the front cursor by at most one slot, and only onto or towards the write cursor: each move uses up one
unread column (R33, R49 item 3, R74). -/
def Obligations.FrontCursorNeverPassesWriteCursor : Prop :=
  ∀ s t : State, s.Inv → exec .tick s = .next t →
    (t.readFront = s.readFront ∧ unread t = unread s) ∨
      (t.readFront = (s.readFront + 1) % s.params.cap ∧ unread t + 1 = unread s)

/-- With one unread column left, a front wrap moves the front cursor onto `writeEnd`, a slot not pushed in this lap,
without setting `underrun`; the next front wrap, with no push between, sets it (R245, R142 item 5). -/
def Obligations.LastColumnLeadsToTheUnpushedSlot : Prop :=
  ∀ s t : State, s.Inv → s.timerArmed = true → unread s = 1 → (s.pixelStep.toNat + 1) % s.params.spp = 0 →
    exec .tick s = .next t →
      t.readFront = s.writeEnd ∧ t.underrun = s.underrun ∧
        ∃ u v : State, runTicks (s.params.spp - 1) t = some u ∧ u.readFront = s.writeEnd ∧ u.underrun = s.underrun ∧
          exec .tick u = .next v ∧ v.readFront = s.writeEnd ∧ v.underrun = true

/-- During one front pixel the gate passes the slot's front bits on the first `min(highlightedSteps + 1, SPP)` of the SPP
ticks, and on no other (R126). -/
def Obligations.PixelIsLitForThresholdPlusOneTicks : Prop :=
  ∀ s : State, s.params.wellFormed = true → s.timerArmed = true → s.readFront < s.params.cap →
    s.readBack < s.params.cap → s.pixelStep = 0 →
      (∀ k : Nat, k < s.params.spp → ∃ t : State, runTicks k s = some t ∧ t.pixelStep.toNat = k ∧
        frontContribution t =
          .ok (if k < min (s.highlightedSteps.toNat + 1) s.params.spp then s.slot s.readFront &&& s.params.frontMask else 0)) ∧
      ((List.range s.params.spp).filter (fun k => (runTicks k s).any frontGate)).length =
        min (s.highlightedSteps.toNat + 1) s.params.spp

/-- With unread data at the front wrap, the front cursor advances exactly once every SPP ticks, at the last of them
(R148 item 2). -/
def Obligations.FrontAdvancesOncePerPixel : Prop :=
  ∀ s : State, s.params.wellFormed = true → s.timerArmed = true → s.readFront < s.params.cap →
    s.readBack < s.params.cap → s.pixelStep = 0 → s.readFront ≠ s.writeEnd →
      (∀ k : Nat, k < s.params.spp → ∃ t : State, runTicks k s = some t ∧ t.readFront = s.readFront) ∧
        ∃ t : State, runTicks s.params.spp s = some t ∧ t.pixelStep = 0 ∧
          t.readFront = (s.readFront + 1) % s.params.cap ∧ t.underrun = s.underrun

/-- From the sweep's place at reset, with no underrun in the first L consecutive TICKs, the back cursor reaches slot 0 at
the end of tick L, and, while BACK_LAG < CAP, not before it. So tick L + 1 reads slot 0 for the back column, which is the
slot, and here the byte, that the front read at tick 1 if the front cursor started on it (R41, R148 item 3). -/
def Obligations.BackCursorTrailsByTheColumnOffset : Prop :=
  ∀ s : State, s.params.wellFormed = true → s.timerArmed = true → s.readFront < s.params.cap → s.pixelStep = 0 →
    s.backStep = (State.resetOf s.params).backStep → s.readBack = (State.resetOf s.params).readBack →
    (∀ (k : Nat) (t : State), 1 ≤ k → k ≤ s.params.columnOffset → runTicks k s = some t → t.underrun = false) →
      (∃ t : State, runTicks s.params.columnOffset s = some t ∧ t.readBack = 0 ∧ t.backStep = 0 ∧
          backContribution t = .ok (s.slot 0 &&& s.params.backMask) ∧
          (s.readFront = 0 →
            t.readBack = s.readFront ∧ frontContribution s = .ok (s.slot 0 &&& s.params.frontMask))) ∧
        (s.params.backLag < s.params.cap →
          ∀ (k : Nat) (t : State), k < s.params.columnOffset → runTicks k s = some t → t.readBack ≠ 0)

/-- The back sweep over any run from reset without a second RESET, whatever the producer does between TICKs, with no
underrun in the first L TICKs: the back cursor advances at the ends of exactly those of them whose number is L modulo SPP,
so it stands on slot 0, where the front started, from the end of tick L until tick L + 1 reads it, and, while
BACK_LAG < CAP, not before (R41, R148 item 3). That a run is an agenda is the model's choice (notes/assumptions/7.md). -/
def Obligations.BackCursorTrailsInEveryRunFromReset : Prop :=
  ∀ (p : Params) (agenda : List Stimulus) (n : Nat) (t : State), p.wellFormed = true → .reset ∉ agenda →
    let s : State := { State.resetOf p with agenda := agenda }
    let ticks := countSteps tickIsNext n s
    Sys2Proof.core.run n s = .next t → ticks ≤ p.columnOffset →
    (∀ (k : Nat) (u : State), k < n → Sys2Proof.core.run k s = .next u → tickIsNext u = true →
      underrunAfterTick u = false) →
      let advances := ((List.range ticks).filter (fun j => (j + 1) % p.spp = p.columnOffset % p.spp)).length
      (t.readBack : Int) = ((advances : Int) - p.backLag) % p.cap ∧
        (t.backStep.toNat : Int) = ((ticks : Int) - p.columnOffset) % p.spp ∧
        (ticks = p.columnOffset →
          advances = p.backLag ∧ t.readBack = s.readFront ∧ t.readBack = 0 ∧
            backContribution t = .ok (t.slot 0 &&& p.backMask)) ∧
        (ticks < p.columnOffset → p.backLag < p.cap → t.readBack ≠ 0)

/-- Over `n` TICKs with one direction and no underrun, the phase walks `n` entries and the coils take the patterns on the
way, one a TICK (R169). -/
def Obligations.PhaseWalksTheTable : Prop :=
  ∀ (n : Nat) (s : State), s.timerArmed = true → s.readFront < s.params.cap → s.readBack < s.params.cap →
    (∀ (k : Nat) (t : State), 1 ≤ k → k ≤ n → runTicks k s = some t → t.underrun = false) →
      ∃ t : State, runTicks n s = some t ∧
        (t.phaseIndex.toNat : Int) = ((s.phaseIndex.toNat : Int) + n * directionValue s.dneg) % 8 ∧
        coilsIn t.trace = coilsIn s.trace ++
          (List.range n).map (fun k =>
            tableAt s.params ((s.phaseIndex.toNat : Int) + ((k : Int) + 1) * directionValue s.dneg))

/-- The coil jump on resume: after `k` TICKs in underrun the coils still hold the pattern of phase `p`; a PUSH then
completes, and the first TICK after it finds `underrun` cleared and writes the pattern `k + 1` entries on, the only coil
write since (R168 item 4, R248). -/
def Obligations.CoilsJumpOnResume : Prop :=
  ∀ (k : Nat) (c : Column) (s : State), s.Inv → s.halted = false → s.pushStage = .idle →
    s.coil = tableAt s.params s.phaseIndex.toNat →
    (∀ (j : Nat) (x : State), 1 ≤ j → j ≤ k → runTicks j s = some x → x.underrun = true) →
      ∃ t u v : State, runTicks k s = some t ∧ wholePush c t = some u ∧ exec .tick u = .next v ∧
        t.coil = s.coil ∧ v.underrun = false ∧
        v.coil = tableAt s.params ((s.phaseIndex.toNat : Int) + ((k : Int) + 1) * directionValue s.dneg) ∧
        coilsIn v.trace = coilsIn s.trace ++ [v.coil]

/-- The coil jump on resume over any run with one direction and no RESET, with TICKs inside a split PUSH as well: after
TICKs that write no coil, the first TICK that starts out of underrun writes the pattern one entry further on than those
TICKs, unless its own front wrap finds the buffer empty again, since TICKs between PUSH_B and PUSH_C have used up the
column; it then sets `underrun` and writes no coil (R141, R142 item 1, R168 items 4 and 5, R248). That a run is an agenda
is the model's choice (notes/assumptions/7.md). -/
def Obligations.CoilsJumpOnResumeInEveryRun : Prop :=
  ∀ (n : Nat) (s t : State), .reset ∉ s.agenda → s.coil = tableAt s.params s.phaseIndex.toNat →
    Sys2Proof.core.run n s = .next t →
    (∀ (k : Nat) (u : State), k < n → Sys2Proof.core.run k s = .next u → tickIsNext u = true →
      underrunAfterTick u = true) →
    (∀ (k : Nat) (u : State), k ≤ n → Sys2Proof.core.run k s = .next u → u.dneg = s.dneg) →
    tickIsNext t = true → t.underrun = false → t.readFront < t.params.cap → t.readBack < t.params.cap →
      let silentTicks : Int := countSteps tickIsNext n s
      ∃ v : State, step t = .next v ∧ t.coil = s.coil ∧
        if frontStopIsNext t then v.underrun = true ∧ v.coil = s.coil ∧ coilsIn v.trace = coilsIn s.trace
        else v.underrun = false ∧
          v.coil = tableAt s.params ((s.phaseIndex.toNat : Int) + (silentTicks + 1) * directionValue s.dneg) ∧
          coilsIn v.trace = coilsIn s.trace ++ [v.coil]

/-- The idle start: with no push, a block that resets out of underrun drives the coils on every TICK before the SPP-th,
and the SPP-th finds the buffer empty and sets `underrun` (R250). -/
def Obligations.EmptyBufferUnderrunsAtFirstFrontWrap : Prop :=
  ∀ p : Params, p.wellFormed = true → p.underrunReset = false →
    (∀ n : Nat, n < p.spp → ∃ t : State, runTicks n (State.resetOf p) = some t ∧ t.underrun = false ∧
      (coilsIn t.trace).length = n) ∧
    ∃ t : State, runTicks p.spp (State.resetOf p) = some t ∧ t.underrun = true ∧ t.readFront = 0 ∧
      t.pixelStep = 0 ∧ (coilsIn t.trace).length + 1 = p.spp

/-- Cursor drift: over any run without RESET, `readFront` moves by the front wraps less the stopped ones and `readBack` by
the back wraps less the stopped ones, modulo CAP, so that their distance changes by `Ff − Bf` against the run in which
neither is ever stopped (R247). -/
def Obligations.BackCursorDriftsByStoppedWraps : Prop :=
  ∀ (n : Nat) (s t : State), .reset ∉ s.agenda → Sys2Proof.core.run n s = .next t →
    let frontWraps : Int := countSteps frontWrapIsNext n s
    let backWraps : Int := countSteps backWrapIsNext n s
    let frontStops : Int := countSteps frontStopIsNext n s
    let backStops : Int := countSteps backStopIsNext n s
    (s.params.cap : Int) ∣ t.readFront - (s.readFront + (frontWraps - frontStops)) ∧
      (s.params.cap : Int) ∣ t.readBack - (s.readBack + (backWraps - backStops)) ∧
      (s.params.cap : Int) ∣
        (t.readBack - t.readFront) -
          ((s.readBack - s.readFront) + (backWraps - frontWraps) + (frontStops - backStops))

/-! ### The configuration port -/

/-- SETDIR stores its bit and answers OK; while halted it is answered HALTED; nothing else changes (R180). -/
def Obligations.SetdirStoresTheDirection : Prop :=
  ∀ (dneg : Bool) (s : State), s.pushStage = .idle →
    exec (.setdir dneg) s =
      if s.halted then .next { s with trace := s.trace ++ [.resp 0x82] }
      else .next { s with dneg := dneg, trace := s.trace ++ [.resp 0x00] }

/-- SETHL stores `min(n, SPP)` and answers OK; while halted it is answered HALTED; nothing else changes (R182). -/
def Obligations.SethlStoresTheClampedRequest : Prop :=
  ∀ (n : Arg) (s : State), s.params.wellFormed = true → s.pushStage = .idle →
    ∃ hl : BitVec 8, hl.toNat = min n.toNat s.params.spp ∧
      exec (.sethl n) s =
        if s.halted then .next { s with trace := s.trace ++ [.resp 0x82] }
        else .next { s with highlightedSteps := hl, trace := s.trace ++ [.resp 0x00] }

/-- SETSPEED with a finite positive rpm is accepted (R184), stores `min(floor(60000 / (rpm · S)), 2^32 − 1)`, computed
exactly (R185), leaves the timer armed and answers OK, as one transition (R186). -/
def Obligations.SetspeedStoresTheExactInterval : Prop :=
  ∀ (rpm : Arg) (s : State), s.halted = false → s.pushStage = .idle → exponentOf rpm ≠ 255 → 0 < rpmValue rpm →
    ∃ delay : BitVec 32,
      delay.toNat = min ⌊(60000 : ℚ) / (rpmValue rpm * (s.params.stepsPerRotation : ℚ))⌋₊ (2 ^ 32 - 1) ∧
      exec (.setspeed rpm) s =
        .next { s with stepDelayMs := delay, timerArmed := true, trace := s.trace ++ [.resp 0x00] }

/-- SETSPEED with a zero, negative, infinite or NaN rpm is answered BAD_ARG and changes nothing else (R184). -/
def Obligations.SetspeedTurnsAwayWhatIsNotFinitePositive : Prop :=
  ∀ (rpm : Arg) (s : State), s.halted = false → s.pushStage = .idle → exponentOf rpm = 255 ∨ rpmValue rpm ≤ 0 →
    exec (.setspeed rpm) s = .next { s with trace := s.trace ++ [.resp 0x81] }

/-- SHUTDOWN disarms the timer, halts and answers OK, and after it no TICK occurs; nothing else changes (R190, R191). That
no TICK occurs is put as `exec .tick` changing nothing, the model's choice (notes/assumptions/8.md). -/
def Obligations.ShutdownDisarmsAndHalts : Prop :=
  ∀ s : State, s.halted = false → s.pushStage = .idle →
    ∃ t : State, exec .shutdown s = .next t ∧
      t = { s with timerArmed := false, halted := true, trace := s.trace ++ [.resp 0x00] } ∧
      exec .tick t = .next t

/-- No configuration command reads or changes the buffer, the cursors, the sub-steps, the phase or `underrun`: with other
values of these it does the same to the rest (R192). -/
def Obligations.ConfigurationLeavesTheDisplayAlone : Prop :=
  ∀ (i : Instr) (s d : State), i.isCommand = true → (∀ c : Column, i ≠ .push c) →
    let withDisplayOf (t : State) : State :=
      { t with
        writeEnd := d.writeEnd, readFront := d.readFront, readBack := d.readBack, pixelStep := d.pixelStep,
        backStep := d.backStep, underrun := d.underrun, phaseIndex := d.phaseIndex, slots := d.slots }
    ∃ t : State, exec i s = .next t ∧ exec i (withDisplayOf s) = .next (withDisplayOf t) ∧
      t.writeEnd = s.writeEnd ∧ t.readFront = s.readFront ∧ t.readBack = s.readBack ∧ t.pixelStep = s.pixelStep ∧
      t.backStep = s.backStep ∧ t.underrun = s.underrun ∧ t.phaseIndex = s.phaseIndex ∧ t.slots = s.slots

/-! ### RESET and the instance -/

/-- RESET gives every state element its value of the reset table, whatever the state before it (R41, R56, R230, R231). That
the agenda is kept is the model's choice (notes/assumptions/9.md); that RESET of a live block gives the slots the same
`INIT_SLOTS` as its first RESET is the model's deduction (notes/assumptions/4.md), which the reset table does not fix. -/
def Obligations.ResetEstablishesTheResetTable : Prop :=
  ∀ s : State, s.params.wellFormed = true →
    ∃ t : State, exec .reset s = .next t ∧
      t.writeEnd = 0 ∧ t.readFront = 0 ∧
      (t.readBack : Int) = (0 - ((s.params.columnOffset + s.params.spp - 1) / s.params.spp : Nat)) % s.params.cap ∧
      t.pixelStep = 0 ∧ (t.backStep.toNat : Int) = (0 - (s.params.columnOffset : Int)) % s.params.spp ∧
      t.highlightedSteps = s.params.hlReset ∧ t.underrun = s.params.underrunReset ∧ t.phaseIndex = 0 ∧
      t.dneg = false ∧ t.stepDelayMs = s.params.stepDelayReset ∧
      (∀ i : Nat, i < s.params.cap → s.params.initSlots[i]? = some (t.slot i)) ∧
      t.coil = 0 ∧ t.data = false ∧ t.clk = false ∧ t.latch = false ∧ t.oe = false ∧ t.timerArmed = true ∧
      t.halted = false ∧ t.pushStage = .idle ∧ t.trace = [] ∧ t.params = s.params ∧ t.agenda = s.agenda

/-- The reset state of every legal instance meets the invariant, and so does `State.reset` (R49, R56). -/
def Obligations.ResetMeetsTheInvariant : Prop :=
  (∀ p : Params, p.wellFormed = true → (State.resetOf p).Inv) ∧ State.reset.Inv

/-- An illegal configuration gives no instance of the block, and a legal one starts in its reset state (R9, R203). -/
def Obligations.IllegalConfigurationIsRefused : Prop :=
  ∀ p : Params,
    if 3 ≤ p.cap ∧ p.cap ≤ 256 ∧ 1 ≤ p.spp ∧ p.spp ≤ 255 ∧ p.columnOffset ≤ 65535 ∧ 1 ≤ p.stepsPerRotation ∧
        p.stepsPerRotation ≤ 65535 ∧ p.hlReset.toNat ≤ p.spp ∧ p.initSlots.length = p.cap then
      instantiate p = .next (State.resetOf p)
    else instantiate p = .refused .illegalConfiguration

/-! ### The whole machine -/

/-- Every step keeps the invariant: cursors and counters in range, `backStep = (pixelStep − L) mod SPP`, at most CAP − 2
unread columns, underrun only on an empty buffer, pins at rest, canonical memory (R49). -/
def Obligations.EveryStepKeepsTheInvariant : Prop :=
  ∀ s t : State, s.Inv → step s = .next t → t.Inv

/-- The block raises no exception and has no fault state: from a state that meets the invariant no step faults or is
refused, whatever the surroundings do (R67, R200). -/
def Obligations.NoStepOfAnInstanceStops : Prop :=
  ∀ s : State, s.Inv → ∃ t : State, step s = .next t

/-- No transition changes a parameter (R52, R230). -/
def Obligations.NoTransitionChangesAParameter : Prop :=
  ∀ s t : State, step s = .next t → t.params = s.params

/-- Each agent writes only what it owns: the producer port never touches the read cursors, the sweep, the phase or the
pins and can only clear `underrun`; the tick never touches the write side or the configuration and can only set it
(R54). -/
def Obligations.EachAgentWritesOnlyWhatItOwns : Prop :=
  (∀ s t : State, step s = .next t → nextStimulus s ≠ .timer → nextStimulus s ≠ .reset →
      t.readFront = s.readFront ∧ t.readBack = s.readBack ∧ t.pixelStep = s.pixelStep ∧ t.backStep = s.backStep ∧
        t.phaseIndex = s.phaseIndex ∧ t.coil = s.coil ∧ t.data = s.data ∧ t.clk = s.clk ∧ t.latch = s.latch ∧
        t.oe = s.oe ∧ (t.underrun = true → s.underrun = true)) ∧
    ∀ s t : State, step s = .next t → nextStimulus s = .timer →
      t.writeEnd = s.writeEnd ∧ t.slots = s.slots ∧ t.dneg = s.dneg ∧ t.highlightedSteps = s.highlightedSteps ∧
        t.stepDelayMs = s.stepDelayMs ∧ t.timerArmed = s.timerArmed ∧ t.halted = s.halted ∧
        t.pushStage = s.pushStage ∧ t.oe = s.oe ∧ (s.underrun = true → t.underrun = true)

/-- `underrun` is set only by a TICK whose front wrap finds the buffer empty and cleared only by an accepted PUSH; RESET
aside, nothing else changes it (R38, R102). -/
def Obligations.OnlyTickSetsAndPushClearsUnderrun : Prop :=
  ∀ s t : State, step s = .next t → nextStimulus s ≠ .reset → t.underrun ≠ s.underrun →
    (t.underrun = true ∧ nextStimulus s = .timer ∧ s.timerArmed = true ∧ t.pixelStep = 0 ∧
        s.readFront = s.writeEnd) ∨
      (t.underrun = false ∧ nextStimulus s ≠ .timer ∧ t.pushStage = .idle ∧
        t.trace = s.trace ++ [.resp 0x00] ∧
        (s.pushStage = .published ∨
          ∃ (w : CommandWord) (c : Column), nextStimulus s = .word w ∧ decode w = .command (.push c) ∧
            s.params.pushGranularity = .atomic ∧ t.writeEnd = (s.writeEnd + 1) % s.params.cap))

/-- Every command word gets exactly one response: on every step but RESET, answers given and words not yet answered keep
their sum (R88, R90). -/
def Obligations.EveryWordGetsOneResponse : Prop :=
  ∀ s t : State, step s = .next t → nextStimulus s ≠ .reset →
    responsesIn t.trace + wordsIn t.agenda + unansweredPush t =
      responsesIn s.trace + wordsIn s.agenda + unansweredPush s

/-- No transition reads the trace: but for RESET, which starts a new one, a step only adds events at its end, and the same
ones whatever stands before them (R15, R52). -/
def Obligations.TraceIsWrittenAndNeverRead : Prop :=
  ∀ (s : State) (earlier : List Event), nextStimulus s ≠ .reset →
    step { s with trace := earlier ++ s.trace } =
      seenThrough (fun t => { t with trace := earlier ++ t.trace }) (step s)

/-- The value of `stepDelayMs` changes no transition: two states that differ in it alone step to states that differ in it
alone (R42). -/
def Obligations.IntervalChangesNoTransition : Prop :=
  ∀ (s : State) (delay : BitVec 32),
    seenThrough (fun t => { t with stepDelayMs := 0 }) (step { s with stepDelayMs := delay }) =
      seenThrough (fun t => { t with stepDelayMs := 0 }) (step s)

/-- Weak fairness of the timer: within three steps for each move on the agenda, the agenda is used up and the timer's
turn comes, so an armed timer ticks (R14). The bound rests on the model's agenda (notes/assumptions/7.md). -/
def Obligations.TimerTurnComesWithinBound : Prop :=
  ∀ s : State, s.Inv → ∃ (k : Nat) (t : State), k ≤ 3 * s.agenda.length ∧ Sys2Proof.core.run k s = .next t ∧
    nextStimulus t = .timer ∧ t.agenda = []
end

