-- ==== Sys2Proof/Laws/State.lean ====
section
/-! SUPPORT. What each named update of the state does to each field: one lemma per field per update. -/

namespace Sys2Proof.Machine

section
variable (e : Event) (s : State)

@[simp] theorem emit_writeEnd : (emit e s).writeEnd = s.writeEnd := rfl
@[simp] theorem emit_readFront : (emit e s).readFront = s.readFront := rfl
@[simp] theorem emit_readBack : (emit e s).readBack = s.readBack := rfl
@[simp] theorem emit_pixelStep : (emit e s).pixelStep = s.pixelStep := rfl
@[simp] theorem emit_backStep : (emit e s).backStep = s.backStep := rfl
@[simp] theorem emit_highlightedSteps : (emit e s).highlightedSteps = s.highlightedSteps := rfl
@[simp] theorem emit_underrun : (emit e s).underrun = s.underrun := rfl
@[simp] theorem emit_phaseIndex : (emit e s).phaseIndex = s.phaseIndex := rfl
@[simp] theorem emit_dneg : (emit e s).dneg = s.dneg := rfl
@[simp] theorem emit_stepDelayMs : (emit e s).stepDelayMs = s.stepDelayMs := rfl
@[simp] theorem emit_coil : (emit e s).coil = s.coil := rfl
@[simp] theorem emit_data : (emit e s).data = s.data := rfl
@[simp] theorem emit_clk : (emit e s).clk = s.clk := rfl
@[simp] theorem emit_latch : (emit e s).latch = s.latch := rfl
@[simp] theorem emit_oe : (emit e s).oe = s.oe := rfl
@[simp] theorem emit_timerArmed : (emit e s).timerArmed = s.timerArmed := rfl
@[simp] theorem emit_halted : (emit e s).halted = s.halted := rfl
@[simp] theorem emit_pushStage : (emit e s).pushStage = s.pushStage := rfl
@[simp] theorem emit_slots : (emit e s).slots = s.slots := rfl
@[simp] theorem emit_params : (emit e s).params = s.params := rfl
@[simp] theorem emit_trace : (emit e s).trace = s.trace ++ [e] := rfl
@[simp] theorem emit_agenda : (emit e s).agenda = s.agenda := rfl

end

section
variable (r : Response) (s : State)

@[simp] theorem respond_writeEnd : (respond r s).writeEnd = s.writeEnd := rfl
@[simp] theorem respond_readFront : (respond r s).readFront = s.readFront := rfl
@[simp] theorem respond_readBack : (respond r s).readBack = s.readBack := rfl
@[simp] theorem respond_pixelStep : (respond r s).pixelStep = s.pixelStep := rfl
@[simp] theorem respond_backStep : (respond r s).backStep = s.backStep := rfl
@[simp] theorem respond_highlightedSteps : (respond r s).highlightedSteps = s.highlightedSteps := rfl
@[simp] theorem respond_underrun : (respond r s).underrun = s.underrun := rfl
@[simp] theorem respond_phaseIndex : (respond r s).phaseIndex = s.phaseIndex := rfl
@[simp] theorem respond_dneg : (respond r s).dneg = s.dneg := rfl
@[simp] theorem respond_stepDelayMs : (respond r s).stepDelayMs = s.stepDelayMs := rfl
@[simp] theorem respond_coil : (respond r s).coil = s.coil := rfl
@[simp] theorem respond_data : (respond r s).data = s.data := rfl
@[simp] theorem respond_clk : (respond r s).clk = s.clk := rfl
@[simp] theorem respond_latch : (respond r s).latch = s.latch := rfl
@[simp] theorem respond_oe : (respond r s).oe = s.oe := rfl
@[simp] theorem respond_timerArmed : (respond r s).timerArmed = s.timerArmed := rfl
@[simp] theorem respond_halted : (respond r s).halted = s.halted := rfl
@[simp] theorem respond_pushStage : (respond r s).pushStage = s.pushStage := rfl
@[simp] theorem respond_slots : (respond r s).slots = s.slots := rfl
@[simp] theorem respond_params : (respond r s).params = s.params := rfl
@[simp] theorem respond_trace : (respond r s).trace = s.trace ++ [.resp (responseCode r)] := rfl
@[simp] theorem respond_agenda : (respond r s).agenda = s.agenda := rfl

end

section
variable (name : Pin) (v : Bool) (s : State)

@[simp] theorem setPin_writeEnd : (setPin name v s).writeEnd = s.writeEnd := rfl
@[simp] theorem setPin_readFront : (setPin name v s).readFront = s.readFront := rfl
@[simp] theorem setPin_readBack : (setPin name v s).readBack = s.readBack := rfl
@[simp] theorem setPin_pixelStep : (setPin name v s).pixelStep = s.pixelStep := rfl
@[simp] theorem setPin_backStep : (setPin name v s).backStep = s.backStep := rfl
@[simp] theorem setPin_highlightedSteps : (setPin name v s).highlightedSteps = s.highlightedSteps := rfl
@[simp] theorem setPin_underrun : (setPin name v s).underrun = s.underrun := rfl
@[simp] theorem setPin_phaseIndex : (setPin name v s).phaseIndex = s.phaseIndex := rfl
@[simp] theorem setPin_dneg : (setPin name v s).dneg = s.dneg := rfl
@[simp] theorem setPin_stepDelayMs : (setPin name v s).stepDelayMs = s.stepDelayMs := rfl
@[simp] theorem setPin_coil : (setPin name v s).coil = s.coil := rfl
@[simp] theorem setPin_data : (setPin name v s).data = (if name = .data then v else s.data) := rfl
@[simp] theorem setPin_clk : (setPin name v s).clk = (if name = .clk then v else s.clk) := rfl
@[simp] theorem setPin_latch : (setPin name v s).latch = (if name = .latch then v else s.latch) := rfl
@[simp] theorem setPin_oe : (setPin name v s).oe = (if name = .oe then v else s.oe) := rfl
@[simp] theorem setPin_timerArmed : (setPin name v s).timerArmed = s.timerArmed := rfl
@[simp] theorem setPin_halted : (setPin name v s).halted = s.halted := rfl
@[simp] theorem setPin_pushStage : (setPin name v s).pushStage = s.pushStage := rfl
@[simp] theorem setPin_slots : (setPin name v s).slots = s.slots := rfl
@[simp] theorem setPin_params : (setPin name v s).params = s.params := rfl
@[simp] theorem setPin_trace : (setPin name v s).trace = s.trace ++ [.pin name v] := rfl
@[simp] theorem setPin_agenda : (setPin name v s).agenda = s.agenda := rfl

end

section
variable (s : State)

@[simp] theorem publishColumn_writeEnd : (publishColumn s).writeEnd = nextIndex s.params s.writeEnd := rfl
@[simp] theorem publishColumn_readFront : (publishColumn s).readFront = s.readFront := rfl
@[simp] theorem publishColumn_readBack : (publishColumn s).readBack = s.readBack := rfl
@[simp] theorem publishColumn_pixelStep : (publishColumn s).pixelStep = s.pixelStep := rfl
@[simp] theorem publishColumn_backStep : (publishColumn s).backStep = s.backStep := rfl
@[simp] theorem publishColumn_highlightedSteps : (publishColumn s).highlightedSteps = s.highlightedSteps := rfl
@[simp] theorem publishColumn_underrun : (publishColumn s).underrun = s.underrun := rfl
@[simp] theorem publishColumn_phaseIndex : (publishColumn s).phaseIndex = s.phaseIndex := rfl
@[simp] theorem publishColumn_dneg : (publishColumn s).dneg = s.dneg := rfl
@[simp] theorem publishColumn_stepDelayMs : (publishColumn s).stepDelayMs = s.stepDelayMs := rfl
@[simp] theorem publishColumn_coil : (publishColumn s).coil = s.coil := rfl
@[simp] theorem publishColumn_data : (publishColumn s).data = s.data := rfl
@[simp] theorem publishColumn_clk : (publishColumn s).clk = s.clk := rfl
@[simp] theorem publishColumn_latch : (publishColumn s).latch = s.latch := rfl
@[simp] theorem publishColumn_oe : (publishColumn s).oe = s.oe := rfl
@[simp] theorem publishColumn_timerArmed : (publishColumn s).timerArmed = s.timerArmed := rfl
@[simp] theorem publishColumn_halted : (publishColumn s).halted = s.halted := rfl
@[simp] theorem publishColumn_pushStage : (publishColumn s).pushStage = s.pushStage := rfl
@[simp] theorem publishColumn_slots : (publishColumn s).slots = s.slots := rfl
@[simp] theorem publishColumn_params : (publishColumn s).params = s.params := rfl
@[simp] theorem publishColumn_trace : (publishColumn s).trace = s.trace := rfl
@[simp] theorem publishColumn_agenda : (publishColumn s).agenda = s.agenda := rfl

end

section
variable (s : State)

@[simp] theorem acceptPush_writeEnd : (acceptPush s).writeEnd = s.writeEnd := rfl
@[simp] theorem acceptPush_readFront : (acceptPush s).readFront = s.readFront := rfl
@[simp] theorem acceptPush_readBack : (acceptPush s).readBack = s.readBack := rfl
@[simp] theorem acceptPush_pixelStep : (acceptPush s).pixelStep = s.pixelStep := rfl
@[simp] theorem acceptPush_backStep : (acceptPush s).backStep = s.backStep := rfl
@[simp] theorem acceptPush_highlightedSteps : (acceptPush s).highlightedSteps = s.highlightedSteps := rfl
@[simp] theorem acceptPush_underrun : (acceptPush s).underrun = false := rfl
@[simp] theorem acceptPush_phaseIndex : (acceptPush s).phaseIndex = s.phaseIndex := rfl
@[simp] theorem acceptPush_dneg : (acceptPush s).dneg = s.dneg := rfl
@[simp] theorem acceptPush_stepDelayMs : (acceptPush s).stepDelayMs = s.stepDelayMs := rfl
@[simp] theorem acceptPush_coil : (acceptPush s).coil = s.coil := rfl
@[simp] theorem acceptPush_data : (acceptPush s).data = s.data := rfl
@[simp] theorem acceptPush_clk : (acceptPush s).clk = s.clk := rfl
@[simp] theorem acceptPush_latch : (acceptPush s).latch = s.latch := rfl
@[simp] theorem acceptPush_oe : (acceptPush s).oe = s.oe := rfl
@[simp] theorem acceptPush_timerArmed : (acceptPush s).timerArmed = s.timerArmed := rfl
@[simp] theorem acceptPush_halted : (acceptPush s).halted = s.halted := rfl
@[simp] theorem acceptPush_pushStage : (acceptPush s).pushStage = s.pushStage := rfl
@[simp] theorem acceptPush_slots : (acceptPush s).slots = s.slots := rfl
@[simp] theorem acceptPush_params : (acceptPush s).params = s.params := rfl
@[simp] theorem acceptPush_trace : (acceptPush s).trace = s.trace ++ [.resp (responseCode .ok)] := rfl
@[simp] theorem acceptPush_agenda : (acceptPush s).agenda = s.agenda := rfl

end

section
variable (s : State)

@[simp] theorem pushB_writeEnd : (pushB s).writeEnd = nextIndex s.params s.writeEnd := rfl
@[simp] theorem pushB_readFront : (pushB s).readFront = s.readFront := rfl
@[simp] theorem pushB_readBack : (pushB s).readBack = s.readBack := rfl
@[simp] theorem pushB_pixelStep : (pushB s).pixelStep = s.pixelStep := rfl
@[simp] theorem pushB_backStep : (pushB s).backStep = s.backStep := rfl
@[simp] theorem pushB_highlightedSteps : (pushB s).highlightedSteps = s.highlightedSteps := rfl
@[simp] theorem pushB_underrun : (pushB s).underrun = s.underrun := rfl
@[simp] theorem pushB_phaseIndex : (pushB s).phaseIndex = s.phaseIndex := rfl
@[simp] theorem pushB_dneg : (pushB s).dneg = s.dneg := rfl
@[simp] theorem pushB_stepDelayMs : (pushB s).stepDelayMs = s.stepDelayMs := rfl
@[simp] theorem pushB_coil : (pushB s).coil = s.coil := rfl
@[simp] theorem pushB_data : (pushB s).data = s.data := rfl
@[simp] theorem pushB_clk : (pushB s).clk = s.clk := rfl
@[simp] theorem pushB_latch : (pushB s).latch = s.latch := rfl
@[simp] theorem pushB_oe : (pushB s).oe = s.oe := rfl
@[simp] theorem pushB_timerArmed : (pushB s).timerArmed = s.timerArmed := rfl
@[simp] theorem pushB_halted : (pushB s).halted = s.halted := rfl
@[simp] theorem pushB_pushStage : (pushB s).pushStage = .published := rfl
@[simp] theorem pushB_slots : (pushB s).slots = s.slots := rfl
@[simp] theorem pushB_params : (pushB s).params = s.params := rfl
@[simp] theorem pushB_trace : (pushB s).trace = s.trace := rfl
@[simp] theorem pushB_agenda : (pushB s).agenda = s.agenda := rfl

end

section
variable (s : State)

@[simp] theorem pushC_writeEnd : (pushC s).writeEnd = s.writeEnd := rfl
@[simp] theorem pushC_readFront : (pushC s).readFront = s.readFront := rfl
@[simp] theorem pushC_readBack : (pushC s).readBack = s.readBack := rfl
@[simp] theorem pushC_pixelStep : (pushC s).pixelStep = s.pixelStep := rfl
@[simp] theorem pushC_backStep : (pushC s).backStep = s.backStep := rfl
@[simp] theorem pushC_highlightedSteps : (pushC s).highlightedSteps = s.highlightedSteps := rfl
@[simp] theorem pushC_underrun : (pushC s).underrun = false := rfl
@[simp] theorem pushC_phaseIndex : (pushC s).phaseIndex = s.phaseIndex := rfl
@[simp] theorem pushC_dneg : (pushC s).dneg = s.dneg := rfl
@[simp] theorem pushC_stepDelayMs : (pushC s).stepDelayMs = s.stepDelayMs := rfl
@[simp] theorem pushC_coil : (pushC s).coil = s.coil := rfl
@[simp] theorem pushC_data : (pushC s).data = s.data := rfl
@[simp] theorem pushC_clk : (pushC s).clk = s.clk := rfl
@[simp] theorem pushC_latch : (pushC s).latch = s.latch := rfl
@[simp] theorem pushC_oe : (pushC s).oe = s.oe := rfl
@[simp] theorem pushC_timerArmed : (pushC s).timerArmed = s.timerArmed := rfl
@[simp] theorem pushC_halted : (pushC s).halted = s.halted := rfl
@[simp] theorem pushC_pushStage : (pushC s).pushStage = .idle := rfl
@[simp] theorem pushC_slots : (pushC s).slots = s.slots := rfl
@[simp] theorem pushC_params : (pushC s).params = s.params := rfl
@[simp] theorem pushC_trace : (pushC s).trace = s.trace ++ [.resp (responseCode .ok)] := rfl
@[simp] theorem pushC_agenda : (pushC s).agenda = s.agenda := rfl

end

section
variable (s : State)

@[simp] theorem tickPhase_writeEnd : (tickPhase s).writeEnd = s.writeEnd := rfl
@[simp] theorem tickPhase_readFront : (tickPhase s).readFront = s.readFront := rfl
@[simp] theorem tickPhase_readBack : (tickPhase s).readBack = s.readBack := rfl
@[simp] theorem tickPhase_pixelStep : (tickPhase s).pixelStep = s.pixelStep := rfl
@[simp] theorem tickPhase_backStep : (tickPhase s).backStep = s.backStep := rfl
@[simp] theorem tickPhase_highlightedSteps : (tickPhase s).highlightedSteps = s.highlightedSteps := rfl
@[simp] theorem tickPhase_underrun : (tickPhase s).underrun = s.underrun := rfl
@[simp] theorem tickPhase_phaseIndex : (tickPhase s).phaseIndex = nextPhase s := rfl
@[simp] theorem tickPhase_dneg : (tickPhase s).dneg = s.dneg := rfl
@[simp] theorem tickPhase_stepDelayMs : (tickPhase s).stepDelayMs = s.stepDelayMs := rfl
@[simp] theorem tickPhase_coil : (tickPhase s).coil = s.coil := rfl
@[simp] theorem tickPhase_data : (tickPhase s).data = s.data := rfl
@[simp] theorem tickPhase_clk : (tickPhase s).clk = s.clk := rfl
@[simp] theorem tickPhase_latch : (tickPhase s).latch = s.latch := rfl
@[simp] theorem tickPhase_oe : (tickPhase s).oe = s.oe := rfl
@[simp] theorem tickPhase_timerArmed : (tickPhase s).timerArmed = s.timerArmed := rfl
@[simp] theorem tickPhase_halted : (tickPhase s).halted = s.halted := rfl
@[simp] theorem tickPhase_pushStage : (tickPhase s).pushStage = s.pushStage := rfl
@[simp] theorem tickPhase_slots : (tickPhase s).slots = s.slots := rfl
@[simp] theorem tickPhase_params : (tickPhase s).params = s.params := rfl
@[simp] theorem tickPhase_trace : (tickPhase s).trace = s.trace := rfl
@[simp] theorem tickPhase_agenda : (tickPhase s).agenda = s.agenda := rfl

end

section
variable (s : State)

@[simp] theorem tickSubSteps_writeEnd : (tickSubSteps s).writeEnd = s.writeEnd := rfl
@[simp] theorem tickSubSteps_readFront : (tickSubSteps s).readFront = s.readFront := rfl
@[simp] theorem tickSubSteps_readBack : (tickSubSteps s).readBack = s.readBack := rfl
@[simp] theorem tickSubSteps_pixelStep : (tickSubSteps s).pixelStep = nextStep s.params s.pixelStep := rfl
@[simp] theorem tickSubSteps_backStep : (tickSubSteps s).backStep = nextStep s.params s.backStep := rfl
@[simp] theorem tickSubSteps_highlightedSteps : (tickSubSteps s).highlightedSteps = s.highlightedSteps := rfl
@[simp] theorem tickSubSteps_underrun : (tickSubSteps s).underrun = s.underrun := rfl
@[simp] theorem tickSubSteps_phaseIndex : (tickSubSteps s).phaseIndex = s.phaseIndex := rfl
@[simp] theorem tickSubSteps_dneg : (tickSubSteps s).dneg = s.dneg := rfl
@[simp] theorem tickSubSteps_stepDelayMs : (tickSubSteps s).stepDelayMs = s.stepDelayMs := rfl
@[simp] theorem tickSubSteps_coil : (tickSubSteps s).coil = s.coil := rfl
@[simp] theorem tickSubSteps_data : (tickSubSteps s).data = s.data := rfl
@[simp] theorem tickSubSteps_clk : (tickSubSteps s).clk = s.clk := rfl
@[simp] theorem tickSubSteps_latch : (tickSubSteps s).latch = s.latch := rfl
@[simp] theorem tickSubSteps_oe : (tickSubSteps s).oe = s.oe := rfl
@[simp] theorem tickSubSteps_timerArmed : (tickSubSteps s).timerArmed = s.timerArmed := rfl
@[simp] theorem tickSubSteps_halted : (tickSubSteps s).halted = s.halted := rfl
@[simp] theorem tickSubSteps_pushStage : (tickSubSteps s).pushStage = s.pushStage := rfl
@[simp] theorem tickSubSteps_slots : (tickSubSteps s).slots = s.slots := rfl
@[simp] theorem tickSubSteps_params : (tickSubSteps s).params = s.params := rfl
@[simp] theorem tickSubSteps_trace : (tickSubSteps s).trace = s.trace := rfl
@[simp] theorem tickSubSteps_agenda : (tickSubSteps s).agenda = s.agenda := rfl

end

section
variable (s : State)

@[simp] theorem tickFront_writeEnd : (tickFront s).writeEnd = s.writeEnd := rfl
@[simp] theorem tickFront_readFront : (tickFront s).readFront = (if frontWrapped s && s.readFront != s.writeEnd then nextIndex s.params s.readFront else s.readFront) := rfl
@[simp] theorem tickFront_readBack : (tickFront s).readBack = s.readBack := rfl
@[simp] theorem tickFront_pixelStep : (tickFront s).pixelStep = s.pixelStep := rfl
@[simp] theorem tickFront_backStep : (tickFront s).backStep = s.backStep := rfl
@[simp] theorem tickFront_highlightedSteps : (tickFront s).highlightedSteps = s.highlightedSteps := rfl
@[simp] theorem tickFront_underrun : (tickFront s).underrun = underrunAfterFront s := rfl
@[simp] theorem tickFront_phaseIndex : (tickFront s).phaseIndex = s.phaseIndex := rfl
@[simp] theorem tickFront_dneg : (tickFront s).dneg = s.dneg := rfl
@[simp] theorem tickFront_stepDelayMs : (tickFront s).stepDelayMs = s.stepDelayMs := rfl
@[simp] theorem tickFront_coil : (tickFront s).coil = s.coil := rfl
@[simp] theorem tickFront_data : (tickFront s).data = s.data := rfl
@[simp] theorem tickFront_clk : (tickFront s).clk = s.clk := rfl
@[simp] theorem tickFront_latch : (tickFront s).latch = s.latch := rfl
@[simp] theorem tickFront_oe : (tickFront s).oe = s.oe := rfl
@[simp] theorem tickFront_timerArmed : (tickFront s).timerArmed = s.timerArmed := rfl
@[simp] theorem tickFront_halted : (tickFront s).halted = s.halted := rfl
@[simp] theorem tickFront_pushStage : (tickFront s).pushStage = s.pushStage := rfl
@[simp] theorem tickFront_slots : (tickFront s).slots = s.slots := rfl
@[simp] theorem tickFront_params : (tickFront s).params = s.params := rfl
@[simp] theorem tickFront_trace : (tickFront s).trace = s.trace := rfl
@[simp] theorem tickFront_agenda : (tickFront s).agenda = s.agenda := rfl

end

section
variable (s : State)

@[simp] theorem tickBack_writeEnd : (tickBack s).writeEnd = s.writeEnd := rfl
@[simp] theorem tickBack_readFront : (tickBack s).readFront = s.readFront := rfl
@[simp] theorem tickBack_readBack : (tickBack s).readBack = (if backWrapped s && !s.underrun then nextIndex s.params s.readBack else s.readBack) := rfl
@[simp] theorem tickBack_pixelStep : (tickBack s).pixelStep = s.pixelStep := rfl
@[simp] theorem tickBack_backStep : (tickBack s).backStep = s.backStep := rfl
@[simp] theorem tickBack_highlightedSteps : (tickBack s).highlightedSteps = s.highlightedSteps := rfl
@[simp] theorem tickBack_underrun : (tickBack s).underrun = s.underrun := rfl
@[simp] theorem tickBack_phaseIndex : (tickBack s).phaseIndex = s.phaseIndex := rfl
@[simp] theorem tickBack_dneg : (tickBack s).dneg = s.dneg := rfl
@[simp] theorem tickBack_stepDelayMs : (tickBack s).stepDelayMs = s.stepDelayMs := rfl
@[simp] theorem tickBack_coil : (tickBack s).coil = s.coil := rfl
@[simp] theorem tickBack_data : (tickBack s).data = s.data := rfl
@[simp] theorem tickBack_clk : (tickBack s).clk = s.clk := rfl
@[simp] theorem tickBack_latch : (tickBack s).latch = s.latch := rfl
@[simp] theorem tickBack_oe : (tickBack s).oe = s.oe := rfl
@[simp] theorem tickBack_timerArmed : (tickBack s).timerArmed = s.timerArmed := rfl
@[simp] theorem tickBack_halted : (tickBack s).halted = s.halted := rfl
@[simp] theorem tickBack_pushStage : (tickBack s).pushStage = s.pushStage := rfl
@[simp] theorem tickBack_slots : (tickBack s).slots = s.slots := rfl
@[simp] theorem tickBack_params : (tickBack s).params = s.params := rfl
@[simp] theorem tickBack_trace : (tickBack s).trace = s.trace := rfl
@[simp] theorem tickBack_agenda : (tickBack s).agenda = s.agenda := rfl

end

section
variable (s : State)

@[simp] theorem tickCoil_writeEnd : (tickCoil s).writeEnd = s.writeEnd := rfl
@[simp] theorem tickCoil_readFront : (tickCoil s).readFront = s.readFront := rfl
@[simp] theorem tickCoil_readBack : (tickCoil s).readBack = s.readBack := rfl
@[simp] theorem tickCoil_pixelStep : (tickCoil s).pixelStep = s.pixelStep := rfl
@[simp] theorem tickCoil_backStep : (tickCoil s).backStep = s.backStep := rfl
@[simp] theorem tickCoil_highlightedSteps : (tickCoil s).highlightedSteps = s.highlightedSteps := rfl
@[simp] theorem tickCoil_underrun : (tickCoil s).underrun = s.underrun := rfl
@[simp] theorem tickCoil_phaseIndex : (tickCoil s).phaseIndex = s.phaseIndex := rfl
@[simp] theorem tickCoil_dneg : (tickCoil s).dneg = s.dneg := rfl
@[simp] theorem tickCoil_stepDelayMs : (tickCoil s).stepDelayMs = s.stepDelayMs := rfl
@[simp] theorem tickCoil_coil : (tickCoil s).coil = (if s.underrun then s.coil else phasePattern s) := rfl
@[simp] theorem tickCoil_data : (tickCoil s).data = s.data := rfl
@[simp] theorem tickCoil_clk : (tickCoil s).clk = s.clk := rfl
@[simp] theorem tickCoil_latch : (tickCoil s).latch = s.latch := rfl
@[simp] theorem tickCoil_oe : (tickCoil s).oe = s.oe := rfl
@[simp] theorem tickCoil_timerArmed : (tickCoil s).timerArmed = s.timerArmed := rfl
@[simp] theorem tickCoil_halted : (tickCoil s).halted = s.halted := rfl
@[simp] theorem tickCoil_pushStage : (tickCoil s).pushStage = s.pushStage := rfl
@[simp] theorem tickCoil_slots : (tickCoil s).slots = s.slots := rfl
@[simp] theorem tickCoil_params : (tickCoil s).params = s.params := rfl
@[simp] theorem tickCoil_trace : (tickCoil s).trace = (if s.underrun then s.trace else s.trace ++ [.coil (phasePattern s)]) := rfl
@[simp] theorem tickCoil_agenda : (tickCoil s).agenda = s.agenda := rfl

end

section
variable (s : State)

@[simp] theorem takeStimulus_writeEnd : (takeStimulus s).writeEnd = s.writeEnd := rfl
@[simp] theorem takeStimulus_readFront : (takeStimulus s).readFront = s.readFront := rfl
@[simp] theorem takeStimulus_readBack : (takeStimulus s).readBack = s.readBack := rfl
@[simp] theorem takeStimulus_pixelStep : (takeStimulus s).pixelStep = s.pixelStep := rfl
@[simp] theorem takeStimulus_backStep : (takeStimulus s).backStep = s.backStep := rfl
@[simp] theorem takeStimulus_highlightedSteps : (takeStimulus s).highlightedSteps = s.highlightedSteps := rfl
@[simp] theorem takeStimulus_underrun : (takeStimulus s).underrun = s.underrun := rfl
@[simp] theorem takeStimulus_phaseIndex : (takeStimulus s).phaseIndex = s.phaseIndex := rfl
@[simp] theorem takeStimulus_dneg : (takeStimulus s).dneg = s.dneg := rfl
@[simp] theorem takeStimulus_stepDelayMs : (takeStimulus s).stepDelayMs = s.stepDelayMs := rfl
@[simp] theorem takeStimulus_coil : (takeStimulus s).coil = s.coil := rfl
@[simp] theorem takeStimulus_data : (takeStimulus s).data = s.data := rfl
@[simp] theorem takeStimulus_clk : (takeStimulus s).clk = s.clk := rfl
@[simp] theorem takeStimulus_latch : (takeStimulus s).latch = s.latch := rfl
@[simp] theorem takeStimulus_oe : (takeStimulus s).oe = s.oe := rfl
@[simp] theorem takeStimulus_timerArmed : (takeStimulus s).timerArmed = s.timerArmed := rfl
@[simp] theorem takeStimulus_halted : (takeStimulus s).halted = s.halted := rfl
@[simp] theorem takeStimulus_pushStage : (takeStimulus s).pushStage = s.pushStage := rfl
@[simp] theorem takeStimulus_slots : (takeStimulus s).slots = s.slots := rfl
@[simp] theorem takeStimulus_params : (takeStimulus s).params = s.params := rfl
@[simp] theorem takeStimulus_trace : (takeStimulus s).trace = s.trace := rfl
@[simp] theorem takeStimulus_agenda : (takeStimulus s).agenda = s.agenda.tail := rfl

end

section
variable (w : CommandWord) (s : State)

@[simp] theorem offerWord_writeEnd : (offerWord w s).writeEnd = s.writeEnd := rfl
@[simp] theorem offerWord_readFront : (offerWord w s).readFront = s.readFront := rfl
@[simp] theorem offerWord_readBack : (offerWord w s).readBack = s.readBack := rfl
@[simp] theorem offerWord_pixelStep : (offerWord w s).pixelStep = s.pixelStep := rfl
@[simp] theorem offerWord_backStep : (offerWord w s).backStep = s.backStep := rfl
@[simp] theorem offerWord_highlightedSteps : (offerWord w s).highlightedSteps = s.highlightedSteps := rfl
@[simp] theorem offerWord_underrun : (offerWord w s).underrun = s.underrun := rfl
@[simp] theorem offerWord_phaseIndex : (offerWord w s).phaseIndex = s.phaseIndex := rfl
@[simp] theorem offerWord_dneg : (offerWord w s).dneg = s.dneg := rfl
@[simp] theorem offerWord_stepDelayMs : (offerWord w s).stepDelayMs = s.stepDelayMs := rfl
@[simp] theorem offerWord_coil : (offerWord w s).coil = s.coil := rfl
@[simp] theorem offerWord_data : (offerWord w s).data = s.data := rfl
@[simp] theorem offerWord_clk : (offerWord w s).clk = s.clk := rfl
@[simp] theorem offerWord_latch : (offerWord w s).latch = s.latch := rfl
@[simp] theorem offerWord_oe : (offerWord w s).oe = s.oe := rfl
@[simp] theorem offerWord_timerArmed : (offerWord w s).timerArmed = s.timerArmed := rfl
@[simp] theorem offerWord_halted : (offerWord w s).halted = s.halted := rfl
@[simp] theorem offerWord_pushStage : (offerWord w s).pushStage = .idle := rfl
@[simp] theorem offerWord_slots : (offerWord w s).slots = s.slots := rfl
@[simp] theorem offerWord_params : (offerWord w s).params = s.params := rfl
@[simp] theorem offerWord_trace : (offerWord w s).trace = s.trace := rfl
@[simp] theorem offerWord_agenda : (offerWord w s).agenda = .word w :: s.agenda := rfl

end

/-! Step 3 of a TICK is 26 pin assignments: their sum on the state is one update. -/

/-- One bit of the shift as one update. -/
theorem shiftBit_eq (s : State) (v : Bool) :
    shiftBit s v =
      { s with
        data := v
        clk := false
        trace := s.trace ++ [.pin .data v, .pin .clk true, .pin .clk false] } := by
  simp [shiftBit, setPin]

/-- A shift of a row of bits as one update. -/
theorem shiftBits_eq (bits : List Bool) (s : State) :
    bits.foldl shiftBit s =
      { s with
        data := bits.getLastD s.data
        clk := if bits = [] then s.clk else false
        trace := s.trace ++ bits.flatMap (fun v => [.pin .data v, .pin .clk true, .pin .clk false]) } := by
  induction bits generalizing s with
  | nil => simp
  | cons v bits ih =>
    rw [List.foldl_cons, ih, shiftBit_eq]
    cases bits <;> simp [List.getLast?_cons]

/-- Step 3 as one update (R133 to R136). -/
theorem tickFrame_eq (out : Column) (s : State) :
    tickFrame out s =
      { s with
        data := out.getLsbD 0
        clk := false
        latch := false
        trace := s.trace ++ frameEvents out } := by
  rw [tickFrame, shiftColumn, shiftBits_eq]
  simp [pulseLatch, setPin, msbFirst, frameEvents]

section
variable (out : Column) (s : State)

@[simp] theorem tickFrame_writeEnd : (tickFrame out s).writeEnd = s.writeEnd := by rw [tickFrame_eq]
@[simp] theorem tickFrame_readFront : (tickFrame out s).readFront = s.readFront := by rw [tickFrame_eq]
@[simp] theorem tickFrame_readBack : (tickFrame out s).readBack = s.readBack := by rw [tickFrame_eq]
@[simp] theorem tickFrame_pixelStep : (tickFrame out s).pixelStep = s.pixelStep := by rw [tickFrame_eq]
@[simp] theorem tickFrame_backStep : (tickFrame out s).backStep = s.backStep := by rw [tickFrame_eq]
@[simp] theorem tickFrame_highlightedSteps : (tickFrame out s).highlightedSteps = s.highlightedSteps := by rw [tickFrame_eq]
@[simp] theorem tickFrame_underrun : (tickFrame out s).underrun = s.underrun := by rw [tickFrame_eq]
@[simp] theorem tickFrame_phaseIndex : (tickFrame out s).phaseIndex = s.phaseIndex := by rw [tickFrame_eq]
@[simp] theorem tickFrame_dneg : (tickFrame out s).dneg = s.dneg := by rw [tickFrame_eq]
@[simp] theorem tickFrame_stepDelayMs : (tickFrame out s).stepDelayMs = s.stepDelayMs := by rw [tickFrame_eq]
@[simp] theorem tickFrame_coil : (tickFrame out s).coil = s.coil := by rw [tickFrame_eq]
@[simp] theorem tickFrame_data : (tickFrame out s).data = out.getLsbD 0 := by rw [tickFrame_eq]
@[simp] theorem tickFrame_clk : (tickFrame out s).clk = false := by rw [tickFrame_eq]
@[simp] theorem tickFrame_latch : (tickFrame out s).latch = false := by rw [tickFrame_eq]
@[simp] theorem tickFrame_oe : (tickFrame out s).oe = s.oe := by rw [tickFrame_eq]
@[simp] theorem tickFrame_timerArmed : (tickFrame out s).timerArmed = s.timerArmed := by rw [tickFrame_eq]
@[simp] theorem tickFrame_halted : (tickFrame out s).halted = s.halted := by rw [tickFrame_eq]
@[simp] theorem tickFrame_pushStage : (tickFrame out s).pushStage = s.pushStage := by rw [tickFrame_eq]
@[simp] theorem tickFrame_slots : (tickFrame out s).slots = s.slots := by rw [tickFrame_eq]
@[simp] theorem tickFrame_params : (tickFrame out s).params = s.params := by rw [tickFrame_eq]
@[simp] theorem tickFrame_trace : (tickFrame out s).trace = s.trace ++ frameEvents out := by rw [tickFrame_eq]
@[simp] theorem tickFrame_agenda : (tickFrame out s).agenda = s.agenda := by rw [tickFrame_eq]

end

end Sys2Proof.Machine
end

