-- ==== Sys2Proof/Laws/Memory.lean ====
section
/-! SUPPORT. The slot array: reading after writing, and the canonical form that every write keeps
(spec/20_memory.md R60 to R63). -/

namespace Sys2Proof.Machine

/-- Memory with nothing listed is in the canonical form. -/
theorem Memory.wf_nil (p : Params) : Memory.wf p [] := by simp [Memory.wf]

/-- An index below every listed one reads as the unwritten slot. -/
theorem Memory.read_of_lt (p : Params) (m : List Host.Cell) (i : Nat) (h : ∀ c ∈ m, i < c.1) :
    Memory.read p m i = unwrittenSlot p i := by
  induction m with
  | nil => rfl
  | cons c m ih =>
    obtain ⟨k, x⟩ := c
    have hk : i < k := h (k, x) List.mem_cons_self
    have hm : ∀ c ∈ m, i < c.1 := fun c hc => h c (List.mem_cons_of_mem _ hc)
    simp [Memory.read, Nat.ne_of_gt hk, ih hm]

/-- Reading after a write gives the value written, and every other slot as before (R61, R62). -/
theorem Memory.read_write (p : Params) (m : List Host.Cell) (i j : Nat) (v : Column)
    (h : m.Pairwise (fun c d => c.1 < d.1)) :
    Memory.read p (Memory.write p i v m) j = if j = i then v else Memory.read p m j := by
  induction m with
  | nil =>
    by_cases hv : v = unwrittenSlot p i <;> by_cases hj : j = i <;>
      simp_all [Memory.write, Memory.read, eq_comm]
  | cons c m ih =>
    obtain ⟨k, x⟩ := c
    obtain ⟨hk, hm⟩ := List.pairwise_cons.mp h
    have above : ∀ c ∈ m, i ≤ k → i < c.1 := fun c hc hik => Nat.lt_of_le_of_lt hik (hk c hc)
    rcases Nat.lt_trichotomy i k with hik | rfl | hki
    · have hfree : Memory.read p ((k, x) :: m) i = unwrittenSlot p i := by
        apply Memory.read_of_lt
        simp only [List.mem_cons, forall_eq_or_imp]
        exact ⟨hik, fun c hc => above c hc (Nat.le_of_lt hik)⟩
      by_cases hv : v = unwrittenSlot p i
      · by_cases hj : j = i
        · subst hj; simp [Memory.write, hik, hv, hfree]
        · simp [Memory.write, hik, hv, hj]
      · by_cases hj : j = i
        · simp [Memory.write, hik, hv, hj, Memory.read]
        · have hij : ¬ i = j := fun e => hj e.symm
          simp [Memory.write, hik, hv, hj, hij, Memory.read]
    · have hfree : Memory.read p m i = unwrittenSlot p i :=
        Memory.read_of_lt p m i (fun c hc => above c hc (Nat.le_refl i))
      by_cases hv : v = unwrittenSlot p i
      · by_cases hj : j = i
        · subst hj; simp [Memory.write, hv, hfree]
        · have hij : ¬ i = j := fun e => hj e.symm
          simp [Memory.write, hv, hj, hij, Memory.read]
      · by_cases hj : j = i
        · simp [Memory.write, hv, hj, Memory.read]
        · have hij : ¬ i = j := fun e => hj e.symm
          simp [Memory.write, hv, hj, hij, Memory.read]
    · have h1 : ¬ i < k := by omega
      have h2 : ¬ i = k := by omega
      by_cases hj : j = i
      · subst hj
        have hkj : ¬ k = j := by omega
        simp [Memory.write, Memory.read, h1, h2, hkj, ih hm]
      · rw [Memory.write, if_neg h1, if_neg h2]
        by_cases hkj : k = j <;> simp [Memory.read, hj, hkj, ih hm]

/-- Every entry after a write is the written one or was there before. -/
theorem Memory.mem_write (p : Params) (m : List Host.Cell) (i : Nat) (v : Column) (c : Host.Cell)
    (h : c ∈ Memory.write p i v m) : (c = (i, v) ∧ v ≠ unwrittenSlot p i) ∨ c ∈ m := by
  induction m with
  | nil => simp only [Memory.write] at h; split at h <;> simp_all
  | cons d m ih =>
    obtain ⟨k, x⟩ := d
    simp only [Memory.write] at h
    split at h
    · split at h <;> simp_all
    · split at h
      · split at h
        · exact .inr (List.mem_cons_of_mem _ h)
        · rcases List.mem_cons.mp h with rfl | h
          · exact .inl ⟨rfl, ‹_›⟩
          · exact .inr (List.mem_cons_of_mem _ h)
      · rcases List.mem_cons.mp h with rfl | h
        · exact .inr List.mem_cons_self
        · exact (ih h).imp_right (List.mem_cons_of_mem _)

/-- A write keeps the canonical form (R61). -/
theorem Memory.write_wf (p : Params) (m : List Host.Cell) (i : Nat) (v : Column) (hi : i < p.cap)
    (h : Memory.wf p m) : Memory.wf p (Memory.write p i v m) := by
  obtain ⟨hs, he⟩ := h
  refine ⟨?_, fun c hc => ?_⟩
  · clear he
    induction m with
    | nil => simp only [Memory.write]; split <;> simp
    | cons d m ih =>
      obtain ⟨k, x⟩ := d
      obtain ⟨hk, hm⟩ := List.pairwise_cons.mp hs
      simp only [Memory.write]
      split
      · split
        · exact hs
        · refine List.pairwise_cons.mpr ⟨?_, hs⟩
          simp only [List.mem_cons, forall_eq_or_imp]
          exact ⟨‹_›, fun c hc => Nat.lt_trans ‹_› (hk c hc)⟩
      · split
        · split
          · exact hm
          · subst i; exact List.pairwise_cons.mpr ⟨hk, hm⟩
        · refine List.pairwise_cons.mpr ⟨fun c hc => ?_, ih hm⟩
          rcases Memory.mem_write p m i v c hc with ⟨rfl, -⟩ | hc
          · show k < i; omega
          · exact hk c hc
  · rcases Memory.mem_write p m i v c hc with ⟨rfl, hv⟩ | hc
    · exact ⟨hi, hv⟩
    · exact he c hc

/-- What a MemRead can do: read a slot that exists, or fault on one that does not (R60, R62). -/
theorem memRead_cases (i : Nat) (s : State) :
    (i < s.params.cap ∧ memRead i s = .ok (s.slot i)) ∨
      (s.params.cap ≤ i ∧ memRead i s = .error (.slotOutOfRange i)) := by
  by_cases h : i < s.params.cap
  · exact .inl ⟨h, by simp [memRead, h]⟩
  · exact .inr ⟨Nat.le_of_not_lt h, by simp [memRead, h]⟩

/-- A MemRead of a slot that exists. -/
theorem memRead_ok (i : Nat) (s : State) (h : i < s.params.cap) : memRead i s = .ok (s.slot i) := by
  simp [memRead, h]

/-- A MemWrite of a slot that exists. -/
theorem memWrite_ok (i : Nat) (v : Column) (s : State) (h : i < s.params.cap) :
    memWrite i v s = .ok { s with slots := Memory.write s.params i v s.slots } := by
  simp [memWrite, h]

/-- What a MemWrite that succeeds leaves: the slots alone have changed. -/
theorem memWrite_eq (i : Nat) (v : Column) (s t : State) (h : memWrite i v s = .ok t) :
    i < s.params.cap ∧ t = { s with slots := Memory.write s.params i v s.slots } := by
  unfold memWrite at h
  split at h
  · exact ⟨‹_›, by simpa using h.symm⟩
  · cases h

/-- The slots of the reset state are in the canonical form. -/
theorem reset_slots_wf : Memory.wf State.reset.params State.reset.slots := Memory.wf_nil _

end Sys2Proof.Machine
end

