-- ==== Sys2Proof/Laws/PerInstr.lean ====
section
/-! SUPPORT. Statements about every instruction, one lemma per constructor of `Instr`. -/

/-- Exactly the commands have a word, and its opcode field is the one the opcode map assigns (spec/30_encoding.md R83,
R87). -/
def Sys2Proof.Laws.EncodedOpcode.Statement (i : Sys2Proof.Instr) : Prop :=
  (Sys2Proof.encode i).map Sys2Proof.opOf = Sys2Proof.opcode? i ∧
    (Sys2Proof.encode i).isSome = i.isCommand

namespace Sys2Proof.Laws.EncodedOpcode

/-- The opcode field of an opcode joined to an argument. -/
theorem opOf_append (op : BitVec 8) (arg : Arg) : opOf (op ++ arg) = op := by
  simp only [opOf]
  apply BitVec.eq_of_getLsbD_eq
  intro k hk
  rw [BitVec.getLsbD_extractLsb', decide_eq_true hk, Bool.true_and]
  exact (BitVec.getLsbD_append (x := op) (y := arg)).trans (by simp)

theorem push (column : Column) : Statement (.push column) := ⟨congrArg some (opOf_append _ _), rfl⟩
theorem setdir (dneg : Bool) : Statement (.setdir dneg) := ⟨congrArg some (opOf_append _ _), rfl⟩
theorem sethl (n : Arg) : Statement (.sethl n) := ⟨congrArg some (opOf_append _ _), rfl⟩
theorem setspeed (rpm : Arg) : Statement (.setspeed rpm) := ⟨congrArg some (opOf_append _ _), rfl⟩
theorem shutdown : Statement .shutdown := ⟨congrArg some (opOf_append _ _), rfl⟩
theorem tick : Statement .tick := ⟨rfl, rfl⟩
theorem reset : Statement .reset := ⟨rfl, rfl⟩

end Sys2Proof.Laws.EncodedOpcode
end

