-- ==== Sys2Proof/Laws/Transitions.lean ====
section
/-! SUPPORT. What each operation and each transition can do, said once: the cases that later proofs cite instead of
unfolding the definitions. -/

namespace Sys2Proof.Machine

/-- What the port's gate does with a command (R84, R90). -/
theorem portCommand_cases (run : State → Host.Outcome State Fault Refusal) (s : State) :
    (s.halted = true ∧ portCommand run s = .next (respond .halted s)) ∨
      (s.halted = false ∧ s.pushStage = .idle ∧ portCommand run s = run s) ∨
      (s.halted = false ∧ s.pushStage ≠ .idle ∧ portCommand run s = .next s) := by
  unfold portCommand
  by_cases hh : s.halted = true <;> by_cases hp : s.pushStage = .idle <;> simp [hh, hp]

/-- What a PUSH that is taken can do: it is turned away full, or it writes `SLOT[writeEnd]`; an atomic one also
publishes the column and answers (R100 to R103). -/
theorem pushStart_cases (c : Column) (s t : State) (h : pushStart c s = .next t) :
    (bufferFull s = true ∧ t = respond .full s) ∨
      (bufferFull s = false ∧ s.writeEnd < s.params.cap ∧ s.params.pushGranularity = .atomic ∧
        t = acceptPush (publishColumn { s with slots := Memory.write s.params s.writeEnd c s.slots })) ∨
      (bufferFull s = false ∧ s.writeEnd < s.params.cap ∧ s.params.pushGranularity = .split ∧
        t = { s with slots := Memory.write s.params s.writeEnd c s.slots, pushStage := .written }) := by
  unfold pushStart pushAtomic pushA at h
  by_cases hf : bufferFull s = true
  · simp only [hf, if_true] at h
    refine .inl ⟨hf, ?_⟩
    cases hg : s.params.pushGranularity <;> simp only [hg, Host.Outcome.next.injEq] at h <;> exact h.symm
  · have hf' : bufferFull s = false := by simpa using hf
    simp only [hf', Bool.false_eq_true, if_false] at h
    cases hm : memWrite s.writeEnd c s with
    | error f => cases hg : s.params.pushGranularity <;> simp [hg, hm] at h
    | ok m =>
      obtain ⟨hlt, rfl⟩ := memWrite_eq _ _ _ _ hm
      cases hg : s.params.pushGranularity <;> simp only [hg, hm, Host.Outcome.next.injEq] at h
      · exact .inr (.inr ⟨hf', hlt, rfl, h.symm⟩)
      · exact .inr (.inl ⟨hf', hlt, rfl, h.symm⟩)

/-- What PUSH can do (R84, R103 to R106). -/
theorem execPush_cases (c : Column) (s t : State) (h : execPush c s = .next t) :
    (s.halted = true ∧ t = respond .halted s) ∨
      (s.halted = false ∧ s.pushStage = .idle ∧ pushStart c s = .next t) ∨
      (s.halted = false ∧ s.pushStage = .written ∧ t = pushB s) ∨
      (s.halted = false ∧ s.pushStage = .published ∧ t = pushC s) := by
  unfold execPush at h
  cases hh : s.halted
  · cases hp : s.pushStage <;> simp only [hh, hp, pushContinue, Bool.false_eq_true, if_false] at h
    · exact .inr (.inl ⟨rfl, rfl, h⟩)
    · injection h with h; exact .inr (.inr (.inl ⟨rfl, rfl, h.symm⟩))
    · injection h with h; exact .inr (.inr (.inr ⟨rfl, rfl, h.symm⟩))
  · simp only [hh, if_true, Host.Outcome.next.injEq] at h
    exact .inl ⟨rfl, h.symm⟩

/-- What SETSPEED can do once it is taken (R184 to R186). -/
theorem setSpeed_cases (rpm : Arg) (s : State) :
    (rpmAccepted rpm = true ∧
        setSpeed rpm s = .next (respond .ok { s with stepDelayMs := intervalOf s.params rpm, timerArmed := true })) ∨
      (rpmAccepted rpm = false ∧ setSpeed rpm s = .next (respond .badArg s)) := by
  cases h : rpmAccepted rpm <;> simp [setSpeed, h]

/-- Steps 3 to 8 as one update (R120): what a TICK that renders `out` leaves. -/
theorem tickAdvance_eq (out : Column) (s : State) :
    tickAdvance out s =
      { s with
        data := out.getLsbD 0
        clk := false
        latch := false
        phaseIndex := nextPhase s
        pixelStep := nextStep s.params s.pixelStep
        backStep := nextStep s.params s.backStep
        readFront :=
          if nextStep s.params s.pixelStep == 0 && s.readFront != s.writeEnd then nextIndex s.params s.readFront
          else s.readFront
        underrun := underrunAfterTick s
        readBack :=
          if nextStep s.params s.backStep == 0 && !underrunAfterTick s then nextIndex s.params s.readBack
          else s.readBack
        coil := if underrunAfterTick s then s.coil else s.params.phaseTable.get (nextPhase s).toFin
        trace :=
          if underrunAfterTick s then s.trace ++ frameEvents out
          else s.trace ++ frameEvents out ++ [.coil (s.params.phaseTable.get (nextPhase s).toFin)] } := by
  unfold tickAdvance
  rw [tickFrame_eq]
  rfl

/-- A TICK that takes place renders a byte and goes through steps 3 to 8; on a disarmed timer nothing happens
(R14, R120). -/
theorem execTick_cases (s t : State) (h : execTick s = .next t) :
    (s.timerArmed = true ∧ ∃ out, renderColumn s = .ok out ∧ t = tickAdvance out s) ∨
      (s.timerArmed = false ∧ t = s) := by
  unfold execTick at h
  split at h
  · cases hr : renderColumn s with
    | error f => rw [hr] at h; cases h
    | ok out => rw [hr] at h; injection h with h; exact .inl ⟨‹_›, out, rfl, h.symm⟩
  · injection h with h
    exact .inr ⟨by simpa using ‹¬ s.timerArmed = true›, h.symm⟩

/-- The rendered byte, where both cursors stand on slots that exist (R123 to R128). -/
theorem renderColumn_ok (s : State) (hf : s.readFront < s.params.cap) (hb : s.readBack < s.params.cap) :
    renderColumn s = .ok
      ((if frontGate s then s.slot s.readFront &&& s.params.frontMask else 0) |||
        (if backGate s then s.slot s.readBack &&& s.params.backMask else 0)) := by
  cases hfg : frontGate s <;> cases hbg : backGate s <;>
    simp [renderColumn, frontContribution, backContribution, hfg, hbg, memRead_ok, hf, hb, Except.map]

/-- What handling a word can be (R84 to R89). -/
theorem handleWord_cases (w : CommandWord) (s : State) :
    (s.halted = true ∧ handleWord w s = .next (respond .halted s)) ∨
      (s.halted = false ∧ ∃ i, decode w = .command i ∧ handleWord w s = exec i s) ∨
      (s.halted = false ∧ decode w = .badArg ∧ handleWord w s = .next (respond .badArg s)) ∨
      (s.halted = false ∧ decode w = .illegalOpcode ∧ handleWord w s = .next (respond .illegalOpcode s)) := by
  cases hh : s.halted <;> cases hd : decode w <;> simp [handleWord, hh, hd]

/-- What one step can be: a word taken by an idle port, a micro-step of the PUSH in flight, a producer turn with
nothing to do, the timer's turn, or RESET (R12). -/
theorem step_cases (s : State) :
    (∃ w, nextStimulus s = .word w ∧ s.pushStage = .idle ∧ step s = handleWord w (takeStimulus s)) ∨
      (∃ w, nextStimulus s = .word w ∧ s.pushStage ≠ .idle ∧ step s = .next (pushContinue s)) ∨
      (nextStimulus s = .producer ∧ step s = .next (pushContinue (takeStimulus s))) ∨
      (nextStimulus s = .timer ∧ step s = execTick (takeStimulus s)) ∨
      (nextStimulus s = .reset ∧ step s = .next (resetState (takeStimulus s))) := by
  cases hn : nextStimulus s with
  | word w => by_cases hp : s.pushStage = .idle <;> simp [step, transition, deliverWord, hn, hp]
  | producer => simp [step, transition, hn]
  | timer => simp [step, transition, hn, exec]
  | reset => simp [step, transition, hn, exec, execReset]

/-- A run whose first step gives a next state goes on from it. -/
theorem run_succ_next (n : Nat) (s t : State) (h : step s = .next t) :
    Sys2Proof.core.run (n + 1) s = Sys2Proof.core.run n t := by
  have h' : Sys2Proof.core.step s = .next t := h
  simp only [Host.Core.run, h']

/-- A run that gives a next state has a first step that does. -/
theorem run_succ_cases (n : Nat) (s u : State) (h : Sys2Proof.core.run (n + 1) s = .next u) :
    ∃ t, step s = .next t ∧ Sys2Proof.core.run n t = .next u := by
  cases hs : step s with
  | next t => exact ⟨t, rfl, (run_succ_next n s t hs).symm.trans h⟩
  | fault f =>
    have h' : Sys2Proof.core.step s = .fault f := hs
    simp only [Host.Core.run, h'] at h
    cases h
  | refused r =>
    have h' : Sys2Proof.core.step s = .refused r := hs
    simp only [Host.Core.run, h'] at h
    cases h

/-- One more step at the end of a run is one step from the state it ends in. -/
theorem run_succ_right (n : Nat) (s u : State) (h : Sys2Proof.core.run n s = .next u) :
    Sys2Proof.core.run (n + 1) s = step u := by
  induction n generalizing s with
  | zero =>
    injection h with h
    subst h
    cases hs : step s with
    | next t => exact run_succ_next 0 s t hs
    | fault f =>
      have h' : Sys2Proof.core.step s = .fault f := hs
      simp only [Host.Core.run, h']
      rfl
    | refused r =>
      have h' : Sys2Proof.core.step s = .refused r := hs
      simp only [Host.Core.run, h']
      rfl
  | succ n ih =>
    obtain ⟨t, hs, ht⟩ := run_succ_cases n s u h
    rw [run_succ_next _ s t hs, ih t ht]

/-- One more step at the end of a run counts if the state the run ends in does. -/
theorem countSteps_succ_right (holds : State → Bool) (n : Nat) (s u : State) (h : Sys2Proof.core.run n s = .next u) :
    countSteps holds (n + 1) s = countSteps holds n s + if holds u then 1 else 0 := by
  induction n generalizing s with
  | zero =>
    injection h with h
    subst h
    simp only [countSteps]
    cases step s <;> simp
  | succ n ih =>
    obtain ⟨t, hs, ht⟩ := run_succ_cases n s u h
    rw [countSteps, countSteps, hs]
    simp only [ih t ht, Nat.add_assoc]

end Sys2Proof.Machine
end

