-- ==== Sys2Proof/Tests/Slice0.lean ====
section
/-! SUPPORT. Small tests of the model, with their expected results from spec/95_test_vectors.md or by hand from the rules,
and for each statement with hypotheses a witness that meets them. -/

namespace Sys2Proof.Tests

open Sys2Proof.Machine

/-! ### Helpers -/

/-- The outcome is a next state with the property. -/
def nextHas (o : Host.Outcome State Fault Refusal) (p : State → Bool) : Bool :=
  match o with
  | .next t => p t
  | .fault _ => false
  | .refused _ => false

/-- The outcome is this next state. -/
def nextIs (o : Host.Outcome State Fault Refusal) (t : State) : Bool := nextHas o (fun u => decide (u = t))

/-- A vector's parameters: CAP, SPP and L, slots all 0x00, the rest as at reference. -/
def vec (cap spp offset : Nat) : Params :=
  { Params.reference with cap := cap, spp := spp, columnOffset := offset, initSlots := List.replicate cap 0 }

/-- A small block for witnesses: three slots, two ticks a pixel, L = 1. -/
def small (g : Granularity) : Params :=
  { Params.reference with
    cap := 3, spp := 2, columnOffset := 1, pushGranularity := g, hlReset := 2, initSlots := [0x11, 0x22, 0x33] }

/-- The reset state of the small block. -/
def tiny (g : Granularity) : State := State.resetOf (small g)

/-- A state from a vector's tuple `(pixelStep, backStep, readFront, readBack)` and `writeEnd`. -/
def at5 (p : Params) (ps bs : BitVec 8) (rF rB wE : Nat) : State :=
  { State.resetOf p with pixelStep := ps, backStep := bs, readFront := rF, readBack := rB, writeEnd := wE }

/-- The command word `w` is answered `code` and the state after it has the property. -/
def answers (s : State) (w : CommandWord) (code : BitVec 8) (p : State → Bool) : Bool :=
  nextHas (handleWord w s) (fun t => t.trace == s.trace ++ [.resp code] && p t)

/-- The word is answered `code` and nothing else changes. -/
def onlyAnswers (s : State) (w : CommandWord) (code : BitVec 8) : Bool :=
  nextIs (handleWord w s) { s with trace := s.trace ++ [.resp code] }

/-! ### Well-formedness: one ill-formed configuration for each check (R9, R203) -/

theorem test_reference_wellFormed : Params.reference.wellFormed = true := by decide
theorem test_small_wellFormed : (small .split).wellFormed = true ∧ (small .atomic).wellFormed = true := by decide
theorem test_cap_two_refused : (vec 2 4 0).wellFormed = false ∧ (vec 2 4 0).capOk = false := by decide
theorem test_cap_257_refused : (vec 257 4 0).capOk = false := by decide
theorem test_spp_zero_refused : (vec 8 0 0).wellFormed = false ∧ (vec 8 0 0).sppOk = false := by decide
theorem test_spp_256_refused : (vec 8 256 0).sppOk = false := by decide
theorem test_offset_65536_refused : (vec 8 4 65536).wellFormed = false ∧ (vec 8 4 65536).offsetOk = false := by decide
theorem test_rotation_zero_refused :
    let p := { Params.reference with stepsPerRotation := 0 }
    p.wellFormed = false ∧ p.rotationOk = false := by decide
theorem test_hlReset_above_spp_refused :
    let p := { Params.reference with hlReset := 27 }
    p.wellFormed = false ∧ p.hlResetOk = false := by decide
theorem test_initSlots_of_wrong_length_refused :
    let p := { Params.reference with initSlots := [0] }
    p.wellFormed = false ∧ p.initSlotsOk = false := by decide
theorem test_tick_is_no_command : Instr.isCommand .tick = false ∧ Instr.isCommand .reset = false := by decide
theorem test_cursorWidth : (vec 16 4 0).cursorWidth = 4 ∧ (vec 3 4 0).cursorWidth = 2 ∧ (vec 256 4 0).cursorWidth = 8 := by
  decide

/-! ### Decoding: words written out bit by bit from R81 -/

theorem test_decode_push :
    decode 0b00000001_000000000000000000000000_10100101 = .command (.push 0xA5) := by decide
theorem test_decode_setdir :
    decode 0b00000010_0000000000000000000000000000000_1 = .command (.setdir true) := by decide
theorem test_decode_sethl :
    decode 0b00000011_00000000000000000000000100101100 = .command (.sethl 300) := by decide
theorem test_decode_setspeed :
    decode 0b00000100_00111111100000000000000000000000 = .command (.setspeed 0x3F800000) := by decide
theorem test_decode_shutdown :
    decode 0b00000101_00000000000000000000000000000000 = .command .shutdown := by decide
theorem test_decode_reserved_bits :
    decode 0x0100000100 = .badArg ∧ decode 0x0180000000 = .badArg ∧ decode 0x0200000002 = .badArg ∧
      decode 0x0280000000 = .badArg ∧ decode 0x0500000001 = .badArg := by decide
theorem test_decode_illegal_opcodes :
    decode 0x0000000000 = .illegalOpcode ∧ decode 0x0600000000 = .illegalOpcode ∧
      decode 0xFF00000000 = .illegalOpcode := by decide
theorem test_tableWord_rows :
    decodeTableWord 40 0x0100000000 = some (.push 0) ∧ decodeTableWord 40 0x0500000000 = some .shutdown := by decide

/-! ### Vectors of spec/95_test_vectors.md -/

/-- P-1 and P-3, with an atomic push. -/
theorem test_push_writes_and_wraps :
    let p := { vec 16 26 3 with pushGranularity := .atomic }
    answers (State.resetOf p) 0x0100000011 0x00 (fun t => t.slot 0 == 0x11 && t.writeEnd == 1) = true ∧
      answers (at5 p 0 0 5 0 15) 0x0100000077 0x00 (fun t => t.slot 15 == 0x77 && t.writeEnd == 0) = true := by decide

/-- P-2, P-5, P-6 and P-7: FULL, BAD_ARG before FULL, HALTED. -/
theorem test_push_turned_away :
    onlyAnswers (at5 (vec 16 26 3) 0 23 0 15 14) 0x0100000022 0x01 = true ∧
      onlyAnswers (State.resetOf (vec 16 26 3)) 0x0100000100 0x81 = true ∧
      onlyAnswers (at5 (vec 16 26 3) 0 23 0 15 14) 0x01FFFFFFFF 0x81 = true ∧
      onlyAnswers { State.reset with halted := true } 0x0100000011 0x82 = true := by decide

/-- T-1 to T-3: the rendered bytes of three TICKs in a row. -/
theorem test_tick_renders :
    let p := { vec 8 4 2 with initSlots := [0xFF, 0, 0, 0, 0, 0, 0, 0x0F] }
    let s := at5 p 0 2 0 7 2
    renderColumn s = .ok 0x55 ∧ ((runTicks 1 s).map renderColumn = some (.ok 0x00)) ∧
      ((runTicks 2 s).map renderColumn = some (.ok 0xAA)) := by decide

/-- T-4: the other parity. -/
theorem test_tick_renders_odd :
    let p := { vec 8 4 2 with
      frontParity := .odd, hlReset := 4, initSlots := [0x0F, 0, 0, 0, 0, 0, 0, 0xF0] }
    renderColumn (at5 p 0 2 0 7 1) = .ok 0x5A := by decide

/-- F-1: the 26 events of `Frame(0xA5)`. -/
theorem test_frame_A5 :
    frameEvents 0xA5 =
      [.pin .data true, .pin .clk true, .pin .clk false, .pin .data false, .pin .clk true, .pin .clk false,
       .pin .data true, .pin .clk true, .pin .clk false, .pin .data false, .pin .clk true, .pin .clk false,
       .pin .data false, .pin .clk true, .pin .clk false, .pin .data true, .pin .clk true, .pin .clk false,
       .pin .data false, .pin .clk true, .pin .clk false, .pin .data true, .pin .clk true, .pin .clk false,
       .pin .latch true, .pin .latch false] := by decide

/-- C-3 and C-5: the wrap of the cursors, and a front wrap on an empty buffer. -/
theorem test_tick_cursors :
    nextHas (execTick (at5 (vec 8 2 0) 1 1 7 7 1))
        (fun t => t.pixelStep == 0 && t.backStep == 0 && t.readFront == 0 && t.readBack == 0 && !t.underrun) = true ∧
      nextHas (execTick (at5 (vec 8 4 1) 3 2 1 1 1))
        (fun t => t.backStep == 3 && t.readFront == 1 && t.readBack == 1 && t.underrun && coilsIn t.trace == []) = true := by
  decide

/-- M-2 and M-3: the phase turns past 7 and, backwards, past 0. -/
theorem test_tick_phase :
    nextHas (execTick { at5 (vec 8 4 1) 0 3 0 7 1 with phaseIndex := 7 })
        (fun t => t.phaseIndex == 0 && t.coil == 0x1) = true ∧
      ((runTicks 3 { at5 (vec 8 4 1) 0 3 0 7 1 with dneg := true }).map (fun t => (t.phaseIndex, coilsIn t.trace)) =
        some (5, [0x9, 0x8, 0xC])) := by decide

/-- S3: after L = 3 ticks the back cursor reaches slot 0. -/
theorem test_back_start :
    State.reset.backStep = 23 ∧ State.reset.readBack = 15 ∧
      (runTicks 2 State.reset).map State.readBack = some 15 ∧ (runTicks 3 State.reset).map State.readBack = some 0 := by
  decide

/-- C-6: the reset values of the back sweep for three rows of the table. -/
theorem test_back_start_rows :
    ((State.resetOf (vec 16 4 5)).backStep, (State.resetOf (vec 16 4 5)).readBack) = (3, 14) ∧
      ((State.resetOf (vec 8 3 7)).backStep, (State.resetOf (vec 8 3 7)).readBack) = (2, 5) ∧
      ((State.resetOf (vec 16 1 3)).backStep, (State.resetOf (vec 16 1 3)).readBack) = (0, 13) := by decide

/-- P-10: a TICK inside a split PUSH shows the written column before it is published. -/
theorem test_tick_inside_split_push :
    let s := { at5 { vec 8 4 0 with hlReset := 4 } 0 0 0 0 0 with
      agenda := [.word 0x01000000FF, .timer, .producer, .producer] }
    nextHas (Sys2Proof.core.run 2 s)
        (fun t => t.writeEnd == 0 && t.slot 0 == 0xFF && t.pushStage == .written) = true ∧
      nextHas (Sys2Proof.core.run 4 s)
        (fun t => t.writeEnd == 1 && t.pushStage == .idle && responsesIn t.trace == 1) = true := by decide

/-- The SETDIR table. -/
theorem test_setdir :
    answers State.reset 0x0200000001 0x00 (fun t => t.dneg) = true ∧
      answers { State.reset with dneg := true } 0x0200000000 0x00 (fun t => !t.dneg) = true ∧
      onlyAnswers State.reset 0x0200000002 0x81 = true := by decide

/-- The SETHL table, SPP = 26. -/
theorem test_sethl :
    answers State.reset 0x0300000019 0x00 (fun t => t.highlightedSteps == 25) = true ∧
      answers State.reset 0x030000001B 0x00 (fun t => t.highlightedSteps == 26) = true ∧
      answers State.reset 0x03FFFFFFFF 0x00 (fun t => t.highlightedSteps == 26) = true := by decide

/-- Rows of the SETSPEED table, S = 4096: exact, truncated, saturated, zero. -/
theorem test_setspeed_intervals :
    [0x3F800000, 0x3F000000, 0x40A00000, 0x416A6000, 0x416A6001, 0x3DCCCCCD, 0x3A83126F, 0x316B0547, 0x316A555B,
        0x00800000, 0x00000001, 0x7F7FFFFF].map (fun r => (intervalOf Params.reference r).toNat) =
      [14, 29, 2, 1, 0, 146, 14648, 4283168783, 4294967295, 4294967295, 4294967295, 0] := by decide

/-- Rows of the SETSPEED table: what is turned away. -/
theorem test_setspeed_bad_args :
    onlyAnswers State.reset 0x0400000000 0x81 = true ∧ onlyAnswers State.reset 0x0480000000 0x81 = true ∧
      onlyAnswers State.reset 0x04BF800000 0x81 = true ∧ onlyAnswers State.reset 0x047F800000 0x81 = true ∧
      onlyAnswers State.reset 0x047FC00000 0x81 = true := by decide

/-- D-1 and D-3: SHUTDOWN, and a halted block. -/
theorem test_shutdown :
    answers State.reset 0x0500000000 0x00 (fun t => !t.timerArmed && t.halted) = true ∧
      onlyAnswers { State.reset with halted := true, timerArmed := false } 0x0000000000 0x82 = true ∧
      nextIs (execTick { State.reset with timerArmed := false }) { State.reset with timerArmed := false } = true := by
  decide

/-- D-5: RESET of a halted block with a push in flight. -/
theorem test_reset :
    let s := { State.reset with
      halted := true, timerArmed := false, pushStage := .written, writeEnd := 9, trace := [.coil 3] }
    nextIs (execReset s) State.reset = true := by decide

/-- The first step after reset is a TICK: the timer is armed and nothing else is asked for (R232). -/
theorem test_first_step_ticks : nextHas (step State.reset) (fun t => t.phaseIndex == 1 && t.coil == 0x3) = true := by
  decide

/-- A table word placed by `withFetchWord` runs in the next step. -/
theorem test_withFetchWord :
    nextHas (step (State.reset.withFetchWord 40 0x0500000000)) (fun t => t.halted) = true ∧
      nextHas (step (State.reset.withFetchWord 40 0x0100000000)) (fun t => t.pushStage == .written) = true := by decide

/-- An access outside the slots faults (R60, R67). -/
theorem test_slot_out_of_range : memRead 16 State.reset = .error (.slotOutOfRange 16) := by decide

/-- A write of what the unwritten slot reads as leaves nothing listed. -/
theorem test_memory_canonical : Memory.write (small .split) 1 0x22 [(1, 0x99)] = [] ∧
    Memory.wf (small .split) (Memory.write (small .split) 1 0x99 [(0, 0x12), (2, 0x34)]) := by decide

/-- Decimal literals of the listings (R91): 1.0, 0.1, 0.001 and 5.0. -/
theorem test_decimal_literals :
    nearestBinary32 ⟨false, 10, 1⟩ = 0x3F800000 ∧ nearestBinary32 ⟨false, 1, 1⟩ = 0x3DCCCCCD ∧
      nearestBinary32 ⟨false, 1, 3⟩ = 0x3A83126F ∧ nearestBinary32 ⟨false, 50, 1⟩ = 0x40A00000 := by decide

/-- A short listing (R92): the commands run in order, then the TICKs. -/
theorem test_listing :
    let s := { State.resetOf (vec 8 2 0) with agenda := listingMoves [.sethl 2, .push 0x3C, .ticks 2] }
    nextHas (Sys2Proof.core.run 8 s)
      (fun t => t.agenda == [] && t.readFront == 1 && t.readBack == 1 && t.phaseIndex == 2 && t.coil == 0x2) = true := by
  decide

/-! ### Witnesses: concrete states and operands that meet the hypotheses of each statement -/

theorem witness_DecodeInvertsEncode :
    encode (.push 0xFF) = some 0x01000000FF ∧ encode (.setdir true) = some 0x0200000001 ∧
      encode (.sethl 0xFFFFFFFF) = some 0x03FFFFFFFF ∧ encode (.setspeed 0) = some 0x0400000000 ∧
      encode .shutdown = some 0x0500000000 := by decide

theorem witness_EncodeInvertsDecode :
    decode 0x01000000FF = .command (.push 0xFF) ∧ decode 0x0200000000 = .command (.setdir false) ∧
      decode 0x03FFFFFFFF = .command (.sethl 0xFFFFFFFF) ∧ decode 0x0500000000 = .command .shutdown := by decide

theorem witness_PortHandlesEveryWord :
    let s := { tiny .split with agenda := [.word 0x0200000001] }
    nextStimulus s = .word 0x0200000001 ∧ s.pushStage = .idle := by decide

theorem witness_StepRunsTheDecodedInstruction :
    let s := { tiny .split with agenda := [.word 0x01000000A5] }
    (nextStimulus s = .word 0x01000000A5 ∧ s.pushStage = .idle ∧ decode 0x01000000A5 = .command (.push 0xA5)) ∧
      nextStimulus (tiny .split) = .timer ∧ nextStimulus { tiny .split with agenda := [.reset] } = .reset ∧
      decodeTableWord 40 0x0200000001 = some (.setdir true) := by decide

/-- A halted state of the small block. -/
def haltedTiny : State := { tiny .split with halted := true, timerArmed := false }

theorem witness_HaltedBlockOnlyAnswersHalted :
    (Instr.isCommand (.push 0) = true ∧ haltedTiny.halted = true) ∧
      haltedTiny.Inv ∧ nextStimulus haltedTiny ≠ .reset ∧
      nextStimulus { haltedTiny with agenda := [.word 0] } ≠ .reset ∧
      nextStimulus { haltedTiny with agenda := [.producer] } ≠ .reset := by decide

theorem witness_FullBufferTurnsPushAway :
    let s := { tiny .split with writeEnd := 1 }
    s.halted = false ∧ s.pushStage = .idle ∧ s.writeEnd = (s.readFront + s.params.cap - 2) % s.params.cap := by decide

theorem witness_AtomicPushWritesAndPublishes :
    let s := { tiny .atomic with readFront := 2, writeEnd := 2 }
    s.halted = false ∧ s.pushStage = .idle ∧ s.params.pushGranularity = .atomic ∧ Memory.wf s.params s.slots ∧
      s.writeEnd < s.params.cap ∧ s.writeEnd ≠ (s.readFront + s.params.cap - 2) % s.params.cap := by decide

theorem witness_SplitPushWritesFirst :
    let s := { tiny .split with readFront := 2, writeEnd := 2 }
    s.halted = false ∧ s.pushStage = .idle ∧ s.params.pushGranularity = .split ∧ Memory.wf s.params s.slots ∧
      s.writeEnd < s.params.cap ∧ s.writeEnd ≠ (s.readFront + s.params.cap - 2) % s.params.cap := by decide

theorem witness_PushMicroStepsPublishThenAnswer :
    let written := { tiny .split with pushStage := .written }
    let published := { tiny .split with pushStage := .published, writeEnd := 1 }
    (written.halted = false ∧ written.pushStage = .written) ∧
      (published.halted = false ∧ published.pushStage = .published) ∧
      (written.pushStage ≠ .idle ∧ nextStimulus { written with agenda := [.producer] } = .producer) ∧
      (published.pushStage ≠ .idle ∧ nextStimulus { published with agenda := [.word 0] } = .word 0) ∧
      (tiny .split).pushStage = .idle ∧ nextStimulus { tiny .split with agenda := [.producer] } = .producer := by decide

theorem witness_SplitPushRefinesAtomicPush :
    (tiny .split).halted = false ∧ (tiny .split).pushStage = .idle ∧
      (tiny .split).writeEnd < (tiny .split).params.cap := by decide

theorem witness_BufferTakesCapMinusTwoColumns :
    let s := { tiny .split with readFront := 2, writeEnd := 2 }
    s.params.wellFormed = true ∧ s.halted = false ∧ s.pushStage = .idle ∧ Memory.wf s.params s.slots ∧
      s.writeEnd < s.params.cap ∧ s.readFront = s.writeEnd ∧ ([0x7E] : List Column).length + 2 = s.params.cap := by decide

theorem witness_OneAdvanceMakesRoomForOnePush :
    let s := { tiny .split with writeEnd := 1 }
    s.params.wellFormed = true ∧ s.halted = false ∧ s.pushStage = .idle ∧ s.writeEnd < s.params.cap ∧
      s.readFront < s.params.cap ∧ bufferFull s = true := by decide

theorem witness_PushInUnderrunIsAccepted :
    let s := { tiny .split with underrun := true }
    s.Inv ∧ s.halted = false ∧ s.pushStage = .idle ∧ s.underrun = true := by decide

theorem witness_PushSparesTheTwoSlotsBehindFront :
    let s := { tiny .split with agenda := [.word 0x01000000A5] }
    s.Inv ∧ nextStimulus s ≠ .reset ∧ nextHas (step s) (fun t => t.slot 0 == 0xA5) = true ∧ ((1 = 1) ∨ (1 = 2)) ∧
      ((2 = 1) ∨ (2 = 2)) := by decide

theorem witness_WrittenColumnShowsBeforeItIsPublished :
    let s := tiny .split
    s.halted = false ∧ s.pushStage = .idle ∧ s.params.pushGranularity = .split ∧ Memory.wf s.params s.slots ∧
      s.readFront = s.writeEnd ∧ 3 ≤ s.params.cap ∧
      nextIs (exec (.push 0xA5) s) { s with slots := [(0, 0xA5)], pushStage := .written } = true ∧
      s.pixelStep.toNat ≤ s.highlightedSteps.toNat := by decide

theorem witness_TickPerformsItsEightSteps :
    let s := { tiny .split with readFront := 2, readBack := 2 }
    s.timerArmed = true ∧ s.readFront < s.params.cap ∧ s.readBack < s.params.cap := by decide

theorem witness_RenderedBitsComeFromTheirColumns :
    renderColumn (tiny .split) = .ok (0x11 ||| 0x22) ∧ 7 < 8 := by decide

theorem witness_TickShiftsLatchesThenDrives :
    (tiny .split).timerArmed = true ∧ renderColumn (tiny .split) = .ok 0x33 ∧
      nextHas (exec .tick (tiny .split)) (fun _ => true) = true := by decide

theorem witness_DisarmedTimerDoesNotTick : haltedTiny.timerArmed = false := by decide

theorem witness_UnderrunStopsCursorsAndCoilsOnly :
    let s := { tiny .split with underrun := true }
    s.Inv ∧ s.timerArmed = true ∧ s.underrun = true ∧ s.pushStage ≠ .published ∧
      nextHas (exec .tick s) (fun _ => true) = true := by decide

theorem witness_TickThatSetsUnderrunAlreadyStops :
    let s := { tiny .split with pixelStep := 1, backStep := 0 }
    nextHas (exec .tick s) (fun t => t.underrun) = true ∧ s.underrun = false := by decide

theorem witness_TickBetweenPublishAndClear :
    let s := { tiny .split with
      pixelStep := 1, backStep := 0, writeEnd := 1, underrun := true, pushStage := .published }
    s.Inv ∧ s.timerArmed = true ∧ s.pushStage = .published ∧ s.underrun = true ∧ s.readFront ≠ s.writeEnd ∧
      (s.pixelStep.toNat + 1) % s.params.spp = 0 ∧ nextHas (exec .tick s) (fun t => t.readFront == 1) = true := by decide

theorem witness_FrontCursorNeverPassesWriteCursor :
    let s := { tiny .split with pixelStep := 1, backStep := 0, writeEnd := 1 }
    s.Inv ∧ nextHas (exec .tick s) (fun t => t.readFront == 1) = true ∧
      nextHas (exec .tick (tiny .split)) (fun t => t.readFront == 0) = true := by decide

theorem witness_LastColumnLeadsToTheUnpushedSlot :
    let s := { tiny .split with pixelStep := 1, backStep := 0, writeEnd := 1 }
    s.Inv ∧ s.timerArmed = true ∧ unread s = 1 ∧ (s.pixelStep.toNat + 1) % s.params.spp = 0 ∧
      nextHas (exec .tick s) (fun t => t.readFront == 1) = true := by decide

theorem witness_PixelIsLitForThresholdPlusOneTicks :
    let s := tiny .split
    s.params.wellFormed = true ∧ s.timerArmed = true ∧ s.readFront < s.params.cap ∧ s.readBack < s.params.cap ∧
      s.pixelStep = 0 := by decide

theorem witness_FrontAdvancesOncePerPixel :
    let s := { tiny .split with writeEnd := 1 }
    s.params.wellFormed = true ∧ s.timerArmed = true ∧ s.readFront < s.params.cap ∧ s.readBack < s.params.cap ∧
      s.pixelStep = 0 ∧ s.readFront ≠ s.writeEnd := by decide

/-- A property of the states after `k ≤ n` TICKs, from its check on each of them. -/
theorem of_checked_ticks (s : State) (n : Nat) (holds : State → Bool)
    (h : ∀ k, k ≤ n → (runTicks k s).all holds = true) (k : Nat) (t : State) (hk : k ≤ n)
    (ht : runTicks k s = some t) : holds t = true := by
  have := h k hk
  rw [ht] at this
  simpa using this

theorem witness_BackCursorTrailsByTheColumnOffset :
    let s := { tiny .split with writeEnd := 1 }
    s.params.wellFormed = true ∧ s.timerArmed = true ∧ s.readFront < s.params.cap ∧ s.pixelStep = 0 ∧
      s.backStep = (State.resetOf s.params).backStep ∧ s.readBack = (State.resetOf s.params).readBack ∧
      (∀ (k : Nat) (t : State), 1 ≤ k → k ≤ s.params.columnOffset → runTicks k s = some t → t.underrun = false) ∧
      s.params.backLag < s.params.cap ∧ s.readFront = 0 ∧ 0 < s.params.columnOffset ∧
      (runTicks 0 s).isSome = true := by
  refine ⟨by decide, by decide, by decide, by decide, by decide, by decide, fun k t _ hk ht => ?_, by decide, by decide,
    by decide, by decide⟩
  have := of_checked_ticks _ 1 (fun u => !u.underrun) (by decide) k t hk ht
  simpa using this

/-- A property of every state a run of `n` steps starts a step in, from its check on each of them. -/
theorem of_checked_steps (s : State) (n : Nat) (holds : State → Bool)
    (h : ∀ k, k < n → nextHas (Sys2Proof.core.run k s) holds = true) (k : Nat) (u : State) (hk : k < n)
    (hu : Sys2Proof.core.run k s = .next u) : holds u = true := by
  have := h k hk
  rw [hu] at this
  simpa [nextHas] using this

/-- A run from reset with a PUSH around tick L = 1: the state before the tick, and the one after it. -/
theorem witness_BackCursorTrailsInEveryRunFromReset :
    let p := small .split
    let agenda : List Stimulus := [.word 0x01000000A5, .producer, .producer, .timer, .producer]
    let s : State := { State.resetOf p with agenda := agenda }
    p.wellFormed = true ∧ .reset ∉ agenda ∧ p.backLag < p.cap ∧
      (nextHas (Sys2Proof.core.run 5 s) (fun _ => true) = true ∧ countSteps tickIsNext 5 s = p.columnOffset) ∧
      (nextHas (Sys2Proof.core.run 3 s) (fun _ => true) = true ∧ countSteps tickIsNext 3 s < p.columnOffset) ∧
      ∀ (k : Nat) (u : State), k < 5 → Sys2Proof.core.run k s = .next u → tickIsNext u = true →
        underrunAfterTick u = false := by
  refine ⟨by decide, by decide, by decide, by decide, by decide, fun k u hk hu ht => ?_⟩
  have := of_checked_steps _ 5 (fun u => !tickIsNext u || !underrunAfterTick u) (by decide) k u hk hu
  simpa [ht] using this

theorem witness_PhaseWalksTheTable :
    let s := { tiny .split with writeEnd := 1 }
    s.timerArmed = true ∧ s.readFront < s.params.cap ∧ s.readBack < s.params.cap ∧
      ∀ (k : Nat) (t : State), 1 ≤ k → k ≤ 3 → runTicks k s = some t → t.underrun = false := by
  refine ⟨by decide, by decide, by decide, fun k t _ hk ht => ?_⟩
  have := of_checked_ticks _ 3 (fun u => !u.underrun) (by decide) k t hk ht
  simpa using this

/-- A state of the small block in underrun, its coils at the pattern of its phase. -/
def stalled : State := { tiny .split with underrun := true, coil := 0x1 }

theorem witness_CoilsJumpOnResume :
    stalled.Inv ∧ stalled.halted = false ∧ stalled.pushStage = .idle ∧
      stalled.coil = tableAt stalled.params stalled.phaseIndex.toNat ∧
      ∀ (j : Nat) (x : State), 1 ≤ j → j ≤ 2 → runTicks j stalled = some x → x.underrun = true := by
  refine ⟨by decide, by decide, by decide, by decide, fun j x _ hj hx => ?_⟩
  exact of_checked_ticks _ 2 (fun u => u.underrun) (by decide) j x hj hx

/-- A block in underrun that is sent a split PUSH with `between` TICKs between PUSH_B and PUSH_C. -/
def stalledPush (between : Nat) : State :=
  { stalled with agenda := [.timer, .timer, .word 0x01000000A5, .producer] ++ List.replicate between .timer ++ [.producer] }

/-- With no TICK between PUSH_B and PUSH_C the next TICK drives the coils. -/
theorem witness_CoilsJumpOnResumeInEveryRun :
    let s := stalledPush 0
    .reset ∉ s.agenda ∧ s.coil = tableAt s.params s.phaseIndex.toNat ∧
      nextHas (Sys2Proof.core.run 5 s) (fun t => tickIsNext t && !t.underrun && !frontStopIsNext t &&
        decide (t.readFront < t.params.cap) && decide (t.readBack < t.params.cap)) = true ∧
      (∀ (k : Nat) (u : State), k < 5 → Sys2Proof.core.run k s = .next u → tickIsNext u = true →
        underrunAfterTick u = true) ∧
      ∀ (k : Nat) (u : State), k ≤ 5 → Sys2Proof.core.run k s = .next u → u.dneg = s.dneg := by
  refine ⟨by decide, by decide, by decide, fun k u hk hu ht => ?_, fun k u hk hu => ?_⟩
  · have := of_checked_steps _ 5 (fun u => !tickIsNext u || underrunAfterTick u) (by decide) k u hk hu
    simpa [ht] using this
  · have := of_checked_steps _ 6 (fun u => u.dneg == (stalledPush 0).dneg) (by decide) k u (by omega) hu
    simpa using this

/-- With three TICKs between PUSH_B and PUSH_C the column is used up, and the next TICK sets `underrun` again. -/
theorem witness_CoilsJumpOnResumeInEveryRun_stopped :
    let s := stalledPush 3
    .reset ∉ s.agenda ∧ s.coil = tableAt s.params s.phaseIndex.toNat ∧
      nextHas (Sys2Proof.core.run 8 s) (fun t => tickIsNext t && !t.underrun && frontStopIsNext t &&
        decide (t.readFront < t.params.cap) && decide (t.readBack < t.params.cap)) = true ∧
      (∀ (k : Nat) (u : State), k < 8 → Sys2Proof.core.run k s = .next u → tickIsNext u = true →
        underrunAfterTick u = true) ∧
      ∀ (k : Nat) (u : State), k ≤ 8 → Sys2Proof.core.run k s = .next u → u.dneg = s.dneg := by
  refine ⟨by decide, by decide, by decide, fun k u hk hu ht => ?_, fun k u hk hu => ?_⟩
  · have := of_checked_steps _ 8 (fun u => !tickIsNext u || underrunAfterTick u) (by decide) k u hk hu
    simpa [ht] using this
  · have := of_checked_steps _ 9 (fun u => u.dneg == (stalledPush 3).dneg) (by decide) k u (by omega) hu
    simpa using this

theorem witness_EmptyBufferUnderrunsAtFirstFrontWrap :
    (small .split).wellFormed = true ∧ (small .split).underrunReset = false := by decide

theorem witness_BackCursorDriftsByStoppedWraps :
    let s := { tiny .split with agenda := [.timer, .timer, .word 0x01000000A5, .timer, .producer, .producer] }
    Stimulus.reset ∉ s.agenda ∧ nextHas (Sys2Proof.core.run 6 s) (fun t => t.agenda == []) = true := by decide

theorem witness_SetdirStoresTheDirection : (tiny .split).pushStage = .idle := by decide

theorem witness_SethlStoresTheClampedRequest :
    (tiny .split).params.wellFormed = true ∧ (tiny .split).pushStage = .idle := by decide

theorem witness_SetspeedStoresTheExactInterval :
    (tiny .split).halted = false ∧ (tiny .split).pushStage = .idle ∧ exponentOf 0x3F800000 ≠ 255 ∧
      0 < rpmValue 0x3F800000 := by
  have e : exponentOf 0x3F800000 = 127 := by decide
  have f : fractionOf 0x3F800000 = 0 := by decide
  have g : signOf 0x3F800000 = false := by decide
  refine ⟨by decide, by decide, by decide, ?_⟩
  have h : ¬ (127 : BitVec 8) = 0 := by decide
  norm_num [rpmValue, e, f, g, h]

theorem witness_SetspeedTurnsAwayWhatIsNotFinitePositive :
    (tiny .split).halted = false ∧ (tiny .split).pushStage = .idle ∧ exponentOf 0x7F800000 = 255 ∧
      rpmValue 0x80000000 ≤ 0 ∧ rpmValue 0 ≤ 0 := by
  refine ⟨by decide, by decide, by decide, ?_, ?_⟩
  · have e : exponentOf 0x80000000 = 0 := by decide
    have f : fractionOf 0x80000000 = 0 := by decide
    norm_num [rpmValue, e, f]
  · have e : exponentOf 0 = 0 := by decide
    have f : fractionOf 0 = 0 := by decide
    norm_num [rpmValue, e, f]

theorem witness_ShutdownDisarmsAndHalts : (tiny .split).halted = false ∧ (tiny .split).pushStage = .idle := by decide

theorem witness_ConfigurationLeavesTheDisplayAlone :
    Instr.isCommand .shutdown = true ∧ (∀ c : Column, Instr.shutdown ≠ .push c) ∧
      Instr.isCommand (.sethl 0xFFFFFFFF) = true ∧ ∀ c : Column, Instr.sethl 0xFFFFFFFF ≠ .push c :=
  ⟨rfl, fun _ => Instr.noConfusion, rfl, fun _ => Instr.noConfusion⟩

theorem witness_ResetEstablishesTheResetTable : haltedTiny.params.wellFormed = true := by decide

theorem witness_ResetMeetsTheInvariant : (vec 3 1 0).wellFormed = true ∧ (vec 16 255 65535).wellFormed = true := by decide

theorem witness_IllegalConfigurationIsRefused :
    (vec 2 4 0).capOk = false ∧ (3 ≤ (small .split).cap ∧ (small .split).cap ≤ 256) := by decide

theorem witness_EveryStepKeepsTheInvariant :
    (tiny .split).Inv ∧ nextHas (step (tiny .split)) (fun _ => true) = true := by decide

theorem witness_NoStepOfAnInstanceStops :
    (tiny .split).Inv ∧ { tiny .split with pushStage := .written, agenda := [.word 0] }.Inv := by decide

theorem witness_NoTransitionChangesAParameter : nextHas (step (tiny .atomic)) (fun _ => true) = true := by decide

theorem witness_EachAgentWritesOnlyWhatItOwns :
    let s := { tiny .atomic with agenda := [.word 0x01000000A5] }
    (nextHas (step s) (fun t => t.writeEnd == 1) = true ∧ nextStimulus s ≠ .timer ∧ nextStimulus s ≠ .reset) ∧
      nextHas (step (tiny .atomic)) (fun _ => true) = true ∧ nextStimulus (tiny .atomic) = .timer := by decide

theorem witness_OnlyTickSetsAndPushClearsUnderrun :
    let s := { tiny .split with pixelStep := 1, backStep := 0 }
    let u := { tiny .atomic with underrun := true, agenda := [.word 0x01000000A5] }
    let v := { tiny .split with underrun := true, pushStage := .published, writeEnd := 1, agenda := [.producer] }
    (nextHas (step s) (fun t => t.underrun != s.underrun) = true ∧ nextStimulus s ≠ .reset) ∧
      (nextHas (step u) (fun t => t.underrun != u.underrun) = true ∧ nextStimulus u ≠ .reset) ∧
      nextHas (step v) (fun t => t.underrun != v.underrun) = true ∧ nextStimulus v ≠ .reset := by decide

theorem witness_EveryWordGetsOneResponse :
    let s := { tiny .split with agenda := [.word 0x01000000A5] }
    nextHas (step s) (fun t => unansweredPush t == 1) = true ∧ nextStimulus s ≠ .reset := by decide

theorem witness_TraceIsWrittenAndNeverRead : nextStimulus (tiny .split) ≠ .reset := by decide

theorem witness_TimerTurnComesWithinBound :
    { tiny .split with agenda := [.word 0x01000000A5, .word 0x0500000000, .reset] }.Inv := by decide

end Sys2Proof.Tests
end

/-! SUPPORT. What `step` runs on each move of the surroundings, and what the decoder never gives
(spec/00_scope.md R12 to R14, spec/30_encoding.md R84, R87). -/

namespace Sys2Proof

/-- The decoder gives the commands of the producer port only: no word spells an event (R87). -/
theorem decode_isCommand {w : CommandWord} {i : Instr} (h : decode w = .command i) : i.isCommand = true := by
  unfold decode at h
  split_ifs at h <;> cases h <;> rfl

/-- A table row's instruction is the command its word decodes to. -/
theorem decode_of_decodeTableWord {nbits w : Nat} {i : Instr} (h : decodeTableWord nbits w = some i) :
    decode (tableWord nbits w) = .command i := by
  unfold decodeTableWord at h
  split at h
  · cases h; assumption
  · cases h
  · cases h

/-- The legal ranges of R9 as one conjunction of inequalities. -/
theorem Params.wellFormed_iff (p : Params) :
    p.wellFormed = true ↔
      3 ≤ p.cap ∧ p.cap ≤ 256 ∧ 1 ≤ p.spp ∧ p.spp ≤ 255 ∧ p.columnOffset ≤ 65535 ∧ 1 ≤ p.stepsPerRotation ∧
        p.stepsPerRotation ≤ 65535 ∧ p.hlReset.toNat ≤ p.spp ∧ p.initSlots.length = p.cap := by
  simp [Params.wellFormed, Params.capOk, Params.sppOk, Params.offsetOk, Params.rotationOk, Params.hlResetOk,
    Params.initSlotsOk, and_assoc]

end Sys2Proof

namespace Sys2Proof.Machine

section
variable {s : State} {w : CommandWord} {i : Instr}

/-- With nothing on the agenda the timer's turn comes (R14). -/
theorem nextStimulus_nil (h : s.agenda = []) : nextStimulus s = .timer := by
  rw [nextStimulus, h, List.headD_nil]

/-- The next move is the first one on the agenda. -/
theorem nextStimulus_cons {m : Stimulus} {ms : List Stimulus} (h : s.agenda = m :: ms) : nextStimulus s = m := by
  rw [nextStimulus, h, List.headD_cons]

/-- An idle port takes the word that comes next (R90). -/
theorem step_word_idle (hn : nextStimulus s = .word w) (hp : s.pushStage = .idle) :
    step s = handleWord w (takeStimulus s) := by
  simp only [step, transition, hn, deliverWord, hp, if_true]

/-- While a PUSH is in flight the port goes on with it and leaves the word on the agenda (R90). -/
theorem step_word_inFlight (hn : nextStimulus s = .word w) (hp : s.pushStage ≠ .idle) :
    step s = .next (pushContinue s) := by
  simp only [step, transition, hn, deliverWord, hp, if_false]

/-- A producer turn is the next micro-step of the PUSH in flight (R104, R105). -/
theorem step_producer (hn : nextStimulus s = .producer) : step s = .next (pushContinue (takeStimulus s)) := by
  simp only [step, transition, hn]

/-- The timer's turn runs TICK (R14). -/
theorem step_timer (hn : nextStimulus s = .timer) : step s = exec .tick (takeStimulus s) := by
  simp only [step, transition, hn]

/-- A RESET move runs RESET (R230). -/
theorem step_reset (hn : nextStimulus s = .reset) : step s = exec .reset (takeStimulus s) := by
  simp only [step, transition, hn]

/-- A halted block answers every command HALTED (R51, R89). -/
theorem exec_command_of_halted (hi : i.isCommand = true) (hh : s.halted = true) :
    exec i s = .next (respond .halted s) := by
  cases i with
  | push c => simp [exec, execPush, hh]
  | setdir dneg => simp [exec, execSetdir, portCommand, hh]
  | sethl n => simp [exec, execSethl, portCommand, hh]
  | setspeed rpm => simp [exec, execSetspeed, portCommand, hh]
  | shutdown => simp [exec, execShutdown, portCommand, hh]
  | tick => cases hi
  | reset => cases hi

/-- The port runs the command that a word spells, halted or not: a halted block's answer is the command's own. -/
theorem handleWord_of_decode (s : State) (hd : decode w = .command i) : handleWord w s = exec i s := by
  by_cases hh : s.halted = true
  · rw [exec_command_of_halted (decode_isCommand hd) hh]
    simp only [handleWord, hh, if_true]
  · rw [handleWord, if_neg hh, hd]

/-- A word that spells a command, taken by an idle port, runs that command (R12, R84). -/
theorem step_word_command (hn : nextStimulus s = .word w) (hp : s.pushStage = .idle) (hd : decode w = .command i) :
    step s = exec i (takeStimulus s) := by
  rw [step_word_idle hn hp, handleWord_of_decode _ hd]

end

/-! ### No transition reads the trace -/

/-- The same state with the events `earlier` standing before its trace. -/
def State.withEarlier (earlier : List Event) (s : State) : State := { s with trace := earlier ++ s.trace }

/-- A transition that does not read the trace: events standing before it are kept there and change nothing else
(R52). -/
def TraceBlind (f : State → Host.Outcome State Fault Refusal) : Prop :=
  ∀ (earlier : List Event) (s : State), f (s.withEarlier earlier) = seenThrough (State.withEarlier earlier) (f s)

section
variable (earlier : List Event) (s : State)

/-- An event is recorded at the end, whatever stands before (R15). -/
theorem respond_withEarlier (r : Response) :
    respond r (s.withEarlier earlier) = (respond r s).withEarlier earlier := by
  simp [respond, emit, State.withEarlier]

/-- The end of a PUSH does not read the trace. -/
theorem acceptPush_withEarlier : acceptPush (s.withEarlier earlier) = (acceptPush s).withEarlier earlier :=
  respond_withEarlier earlier { s with underrun := false } .ok

/-- No micro-step of the PUSH in flight reads the trace. -/
theorem pushContinue_withEarlier : pushContinue (s.withEarlier earlier) = (pushContinue s).withEarlier earlier := by
  have hstage : (s.withEarlier earlier).pushStage = s.pushStage := rfl
  cases hp : s.pushStage <;> simp only [pushContinue, hstage, hp]
  case written => rfl
  case published => exact acceptPush_withEarlier earlier { s with pushStage := .idle }

/-- Steps 3 to 8 of a TICK do not read the trace. -/
theorem tickAdvance_withEarlier (out : Column) :
    tickAdvance out (s.withEarlier earlier) = (tickAdvance out s).withEarlier earlier := by
  have hunderrun : underrunAfterTick (s.withEarlier earlier) = underrunAfterTick s := rfl
  rw [tickAdvance_eq, tickAdvance_eq, hunderrun]
  cases underrunAfterTick s <;> simp [State.withEarlier, nextPhase]

/-- A MemWrite does not read the trace. -/
theorem memWrite_withEarlier (i : Nat) (v : Column) :
    memWrite i v (s.withEarlier earlier) = (memWrite i v s).map (State.withEarlier earlier) := by
  by_cases h : i < s.params.cap <;> simp [memWrite, State.withEarlier, h, Except.map]

end

/-- An update that does not read the trace, as a transition. -/
theorem TraceBlind.of_update {g : State → State}
    (hg : ∀ (earlier : List Event) (s : State), g (s.withEarlier earlier) = (g s).withEarlier earlier) :
    TraceBlind (fun s => .next (g s)) :=
  fun earlier s => congrArg Host.Outcome.next (hg earlier s)

/-- An answer does not read the trace. -/
theorem respond_traceBlind (r : Response) : TraceBlind (fun s => .next (respond r s)) :=
  .of_update fun earlier s => respond_withEarlier earlier s r

/-- The port's gate does not read the trace. -/
theorem portCommand_traceBlind {run : State → Host.Outcome State Fault Refusal} (hrun : TraceBlind run) :
    TraceBlind (portCommand run) := by
  intro earlier s
  have hhalted : (s.withEarlier earlier).halted = s.halted := rfl
  have hstage : (s.withEarlier earlier).pushStage = s.pushStage := rfl
  simp only [portCommand, hhalted, hstage]
  split_ifs
  · exact respond_traceBlind .halted earlier s
  · exact hrun earlier s
  · rfl

theorem setDirection_traceBlind (dneg : Bool) : TraceBlind (setDirection dneg) :=
  fun earlier s => respond_traceBlind .ok earlier { s with dneg := dneg }

theorem setHighlighted_traceBlind (n : Arg) : TraceBlind (setHighlighted n) :=
  fun earlier s => respond_traceBlind .ok earlier { s with highlightedSteps := clampHighlighted s.params n }

theorem shutDown_traceBlind : TraceBlind shutDown :=
  fun earlier s => respond_traceBlind .ok earlier { s with timerArmed := false, halted := true }

theorem setSpeed_traceBlind (rpm : Arg) : TraceBlind (setSpeed rpm) := by
  intro earlier s
  unfold setSpeed
  split_ifs
  · exact respond_traceBlind .ok earlier { s with stepDelayMs := intervalOf s.params rpm, timerArmed := true }
  · exact respond_traceBlind .badArg earlier s

theorem pushAtomic_traceBlind (c : Column) : TraceBlind (pushAtomic c) := by
  intro earlier s
  have hfull : bufferFull (s.withEarlier earlier) = bufferFull s := rfl
  have hend : (s.withEarlier earlier).writeEnd = s.writeEnd := rfl
  simp only [pushAtomic, hfull, hend, memWrite_withEarlier]
  split_ifs
  · exact respond_traceBlind .full earlier s
  · cases memWrite s.writeEnd c s with
    | error f => rfl
    | ok t => exact congrArg Host.Outcome.next (acceptPush_withEarlier earlier (publishColumn t))

theorem pushA_traceBlind (c : Column) : TraceBlind (pushA c) := by
  intro earlier s
  have hfull : bufferFull (s.withEarlier earlier) = bufferFull s := rfl
  have hend : (s.withEarlier earlier).writeEnd = s.writeEnd := rfl
  simp only [pushA, hfull, hend, memWrite_withEarlier]
  split_ifs
  · exact respond_traceBlind .full earlier s
  · cases memWrite s.writeEnd c s <;> rfl

theorem pushStart_traceBlind (c : Column) : TraceBlind (pushStart c) := by
  intro earlier s
  have hparams : (s.withEarlier earlier).params = s.params := rfl
  cases hg : s.params.pushGranularity <;> simp only [pushStart, hparams, hg]
  case atomic => exact pushAtomic_traceBlind c earlier s
  case split => exact pushA_traceBlind c earlier s

theorem execPush_traceBlind (c : Column) : TraceBlind (execPush c) := by
  intro earlier s
  have hhalted : (s.withEarlier earlier).halted = s.halted := rfl
  have hstage : (s.withEarlier earlier).pushStage = s.pushStage := rfl
  simp only [execPush, hhalted, hstage]
  split_ifs
  · exact respond_traceBlind .halted earlier s
  · cases s.pushStage
    case idle => exact pushStart_traceBlind c earlier s
    case written | published => exact congrArg Host.Outcome.next (pushContinue_withEarlier earlier s)

theorem execTick_traceBlind : TraceBlind execTick := by
  intro earlier s
  have harmed : (s.withEarlier earlier).timerArmed = s.timerArmed := rfl
  have hrender : renderColumn (s.withEarlier earlier) = renderColumn s := rfl
  simp only [execTick, harmed, hrender]
  split_ifs
  · cases renderColumn s with
    | error f => rfl
    | ok out => exact congrArg Host.Outcome.next (tickAdvance_withEarlier earlier s out)
  · rfl

/-- No instruction but RESET reads the trace (R52). -/
theorem exec_traceBlind {i : Instr} (hi : i ≠ .reset) : TraceBlind (exec i) := by
  cases i with
  | push c => exact execPush_traceBlind c
  | setdir dneg => exact portCommand_traceBlind (setDirection_traceBlind dneg)
  | sethl n => exact portCommand_traceBlind (setHighlighted_traceBlind n)
  | setspeed rpm => exact portCommand_traceBlind (setSpeed_traceBlind rpm)
  | shutdown => exact portCommand_traceBlind shutDown_traceBlind
  | tick => exact execTick_traceBlind
  | reset => exact absurd rfl hi

/-- The port's handling of a word does not read the trace. -/
theorem handleWord_traceBlind (w : CommandWord) : TraceBlind (handleWord w) := by
  intro earlier s
  have hhalted : (s.withEarlier earlier).halted = s.halted := rfl
  simp only [handleWord, hhalted]
  split_ifs
  · exact respond_traceBlind .halted earlier s
  · cases hd : decode w with
    | command i =>
      have hi : i ≠ .reset := by
        rintro rfl
        cases decode_isCommand hd
      exact exec_traceBlind hi earlier s
    | badArg => exact respond_traceBlind .badArg earlier s
    | illegalOpcode => exact respond_traceBlind .illegalOpcode earlier s

/-- Settles O49: every move but RESET runs a transition that is `TraceBlind`. -/
theorem traceIsWrittenAndNeverRead : Obligations.TraceIsWrittenAndNeverRead := by
  intro s earlier hreset
  change step (s.withEarlier earlier) = seenThrough (State.withEarlier earlier) (step s)
  have hnext : nextStimulus (s.withEarlier earlier) = nextStimulus s := rfl
  cases hn : nextStimulus s with
  | word w =>
    by_cases hp : s.pushStage = .idle
    · rw [step_word_idle hn hp, step_word_idle (hnext.trans hn) hp]
      exact handleWord_traceBlind w earlier (takeStimulus s)
    · rw [step_word_inFlight hn hp, step_word_inFlight (hnext.trans hn) hp]
      exact congrArg Host.Outcome.next (pushContinue_withEarlier earlier s)
  | producer =>
    rw [step_producer hn, step_producer (hnext.trans hn)]
    exact congrArg Host.Outcome.next (pushContinue_withEarlier earlier (takeStimulus s))
  | timer =>
    rw [step_timer hn, step_timer (hnext.trans hn)]
    exact execTick_traceBlind earlier (takeStimulus s)
  | reset => exact absurd hn hreset

/-! ### The agenda is used up -/

/-- A next state whose cursors stand on slots, with the moves `moves` still to come: a transition that neither stops
nor leads to one that does. -/
def GoesOn (moves : List Stimulus) (o : Host.Outcome State Fault Refusal) : Prop :=
  ∃ t : State, o = .next t ∧ t.agenda = moves ∧ t.CursorsInRange

/-- A cursor's next index is a slot index. -/
theorem nextIndex_lt {p : Params} {i : Nat} (h : i < p.cap) : nextIndex p i < p.cap :=
  Nat.mod_lt _ (Nat.zero_lt_of_lt h)

/-- A TICK takes no move from the agenda. -/
@[simp] theorem tickAdvance_agenda (out : Column) (s : State) : (tickAdvance out s).agenda = s.agenda := by
  rw [tickAdvance_eq]

section
variable {s : State} (h : s.CursorsInRange)
include h

theorem respond_goesOn (r : Response) : GoesOn s.agenda (.next (respond r s)) := ⟨_, rfl, rfl, h⟩

theorem portCommand_goesOn {run : State → Host.Outcome State Fault Refusal} (hrun : GoesOn s.agenda (run s)) :
    GoesOn s.agenda (portCommand run s) := by
  obtain ⟨-, hs⟩ | ⟨-, -, hs⟩ | ⟨-, -, hs⟩ := portCommand_cases run s <;> rw [hs]
  · exact respond_goesOn h .halted
  · exact hrun
  · exact ⟨s, rfl, rfl, h⟩

theorem setSpeed_goesOn (rpm : Arg) : GoesOn s.agenda (setSpeed rpm s) := by
  obtain ⟨-, hs⟩ | ⟨-, hs⟩ := setSpeed_cases rpm s <;> rw [hs]
  · exact ⟨_, rfl, rfl, h⟩
  · exact respond_goesOn h .badArg

theorem pushContinue_goesOn : GoesOn s.agenda (.next (pushContinue s)) := by
  obtain ⟨hw, hf, hb⟩ := h
  unfold pushContinue
  cases s.pushStage
  case idle | published => exact ⟨_, rfl, rfl, hw, hf, hb⟩
  case written => exact ⟨_, rfl, rfl, nextIndex_lt hw, hf, hb⟩

theorem pushAtomic_goesOn (c : Column) : GoesOn s.agenda (pushAtomic c s) := by
  have ⟨hw, hf, hb⟩ := h
  simp only [pushAtomic, memWrite_ok _ _ _ hw]
  split_ifs
  · exact respond_goesOn h .full
  · exact ⟨_, rfl, rfl, nextIndex_lt hw, hf, hb⟩

theorem pushA_goesOn (c : Column) : GoesOn s.agenda (pushA c s) := by
  have ⟨hw, _, _⟩ := h
  simp only [pushA, memWrite_ok _ _ _ hw]
  split_ifs
  · exact respond_goesOn h .full
  · exact ⟨_, rfl, rfl, h⟩

theorem pushStart_goesOn (c : Column) : GoesOn s.agenda (pushStart c s) := by
  unfold pushStart
  split
  · exact pushAtomic_goesOn h c
  · exact pushA_goesOn h c

theorem execPush_goesOn (c : Column) : GoesOn s.agenda (execPush c s) := by
  unfold execPush
  split_ifs
  · exact respond_goesOn h .halted
  · split
    · exact pushStart_goesOn h c
    · exact pushContinue_goesOn h
    · exact pushContinue_goesOn h

/-- A TICK moves each read cursor to its next index or leaves it. -/
theorem tickAdvance_cursorsInRange (out : Column) : (tickAdvance out s).CursorsInRange := by
  obtain ⟨hw, hf, hb⟩ := h
  rw [tickAdvance_eq]
  refine ⟨hw, ?_, ?_⟩ <;> dsimp only <;> split_ifs
  · exact nextIndex_lt hf
  · exact hf
  · exact nextIndex_lt hb
  · exact hb

theorem execTick_goesOn : GoesOn s.agenda (execTick s) := by
  have ⟨_, hf, hb⟩ := h
  unfold execTick
  by_cases harmed : s.timerArmed = true
  · rw [if_pos harmed, renderColumn_ok s hf hb]
    exact ⟨_, rfl, tickAdvance_agenda _ s, tickAdvance_cursorsInRange h _⟩
  · rw [if_neg harmed]
    exact ⟨s, rfl, rfl, h⟩

/-- RESET puts the cursors on slots, because a block with a cursor in range has a slot. -/
theorem execReset_goesOn : GoesOn s.agenda (execReset s) := by
  have ⟨hw, _, _⟩ := h
  have hcap : 0 < s.params.cap := Nat.zero_lt_of_lt hw
  have hcap' : (0 : Int) < s.params.cap := Int.natCast_pos.mpr hcap
  refine ⟨_, rfl, rfl, hcap, hcap, ?_⟩
  exact (Int.toNat_lt (Int.emod_nonneg _ hcap'.ne')).mpr (Int.emod_lt_of_pos _ hcap')

/-- No instruction stops, takes a move from the agenda or leaves a cursor off the slots, where the cursors stand on
slots (R67, R200). -/
theorem exec_goesOn (i : Instr) : GoesOn s.agenda (exec i s) := by
  cases i with
  | push c => exact execPush_goesOn h c
  | setdir dneg => exact portCommand_goesOn h ⟨_, rfl, rfl, h⟩
  | sethl n => exact portCommand_goesOn h ⟨_, rfl, rfl, h⟩
  | setspeed rpm => exact portCommand_goesOn h (setSpeed_goesOn h rpm)
  | shutdown => exact portCommand_goesOn h ⟨_, rfl, rfl, h⟩
  | tick => exact execTick_goesOn h
  | reset => exact execReset_goesOn h

theorem handleWord_goesOn (w : CommandWord) : GoesOn s.agenda (handleWord w s) := by
  obtain ⟨-, hs⟩ | ⟨-, i, -, hs⟩ | ⟨-, -, hs⟩ | ⟨-, -, hs⟩ := handleWord_cases w s <;> rw [hs]
  · exact respond_goesOn h .halted
  · exact exec_goesOn h i
  · exact respond_goesOn h .badArg
  · exact respond_goesOn h .illegalOpcode

/-- Unless a word waits for the PUSH in flight, a step takes one move from the agenda. -/
theorem step_takes_move (hidle : ∀ w, nextStimulus s = .word w → s.pushStage = .idle) :
    GoesOn s.agenda.tail (step s) := by
  have ht : (takeStimulus s).CursorsInRange := h
  cases hn : nextStimulus s with
  | word w => rw [step_word_idle hn (hidle w hn)]; exact handleWord_goesOn ht w
  | producer => rw [step_producer hn]; exact pushContinue_goesOn ht
  | timer => rw [step_timer hn]; exact exec_goesOn ht .tick
  | reset => rw [step_reset hn]; exact exec_goesOn ht .reset

/-- The PUSH in flight that a word waits for ends within two steps, and the word is then still next (R104, R105). -/
theorem inFlight_push_ends_within_two {w : CommandWord} (hn : nextStimulus s = .word w) :
    ∃ (k : Nat) (t : State), k ≤ 2 ∧ Sys2Proof.core.run k s = .next t ∧ t.pushStage = .idle ∧ t.agenda = s.agenda ∧
      t.CursorsInRange := by
  cases hp : s.pushStage with
  | idle => exact ⟨0, s, by omega, rfl, hp, rfl, h⟩
  | written =>
    have hB : step s = .next (pushB s) := by
      rw [step_word_inFlight hn (by simp [hp])]; simp only [pushContinue, hp]
    have hC : step (pushB s) = .next (pushC (pushB s)) := step_word_inFlight hn (by simp)
    obtain ⟨hw, hf, hb⟩ := h
    exact ⟨2, pushC (pushB s), le_rfl, by rw [run_succ_next 1 s _ hB, run_succ_next 0 _ _ hC]; rfl, rfl, rfl,
      nextIndex_lt hw, hf, hb⟩
  | published =>
    have hC : step s = .next (pushC s) := by
      rw [step_word_inFlight hn (by simp [hp])]; simp only [pushContinue, hp]
    exact ⟨1, pushC s, by omega, by rw [run_succ_next 0 s _ hC]; rfl, rfl, rfl, h⟩

/-- The first move on the agenda is used up within three steps. -/
theorem first_move_used_within_three {m : Stimulus} {ms : List Stimulus} (hm : s.agenda = m :: ms) :
    ∃ (k : Nat) (t : State), k ≤ 3 ∧ Sys2Proof.core.run k s = .next t ∧ t.agenda = ms ∧ t.CursorsInRange := by
  have hready : ∃ (k : Nat) (t : State), k ≤ 2 ∧ Sys2Proof.core.run k s = .next t ∧ t.agenda = s.agenda ∧
      t.CursorsInRange ∧ ∀ w, nextStimulus t = .word w → t.pushStage = .idle := by
    by_cases hw : ∃ w, nextStimulus s = .word w
    · obtain ⟨w, hw⟩ := hw
      obtain ⟨k, t, hk, hrun, hp, ha, ht⟩ := inFlight_push_ends_within_two h hw
      exact ⟨k, t, hk, hrun, ha, ht, fun _ _ => hp⟩
    · exact ⟨0, s, by omega, rfl, rfl, h, fun w hn => absurd ⟨w, hn⟩ hw⟩
  obtain ⟨k, t, hk, hrun, ha, ht, hidle⟩ := hready
  obtain ⟨u, hu, hau, hcu⟩ := step_takes_move ht hidle
  exact ⟨k + 1, u, by omega, (run_succ_right k s t hrun).trans hu, by rw [hau, ha, hm, List.tail_cons], hcu⟩

end

/-- A run of `m + n` steps goes on from the state its first `m` steps end in. -/
theorem run_add (m n : Nat) (s t : State) (h : Sys2Proof.core.run m s = .next t) :
    Sys2Proof.core.run (m + n) s = Sys2Proof.core.run n t := by
  induction m generalizing s with
  | zero =>
    injection h with h
    rw [Nat.zero_add, h]
  | succ m ih =>
    obtain ⟨u, hu, hrun⟩ := run_succ_cases m s t h
    rw [Nat.add_right_comm, run_succ_next _ s u hu, ih u hrun]

/-- The agenda is used up within three steps for each of its moves. -/
theorem agenda_used_up (moves : List Stimulus) (s : State) (h : s.CursorsInRange) (hm : s.agenda = moves) :
    ∃ (k : Nat) (t : State), k ≤ 3 * moves.length ∧ Sys2Proof.core.run k s = .next t ∧ t.agenda = [] := by
  induction moves generalizing s with
  | nil => exact ⟨0, s, le_rfl, rfl, hm⟩
  | cons m ms ih =>
    obtain ⟨k, t, hk, hrun, hms, ht⟩ := first_move_used_within_three h hm
    obtain ⟨l, u, hl, hrun', hu⟩ := ih t ht hms
    exact ⟨k + l, u, by rw [List.length_cons]; omega, by rw [run_add k l s t hrun, hrun'], hu⟩

/-- Settles O51: the agenda is used up, and an empty agenda is the timer's turn. -/
theorem timerTurnComesWithinBound : Obligations.TimerTurnComesWithinBound := by
  rintro s ⟨-, hcursors, -⟩
  obtain ⟨k, t, hk, hrun, ht⟩ := agenda_used_up s.agenda s hcursors rfl
  exact ⟨k, t, hk, hrun, nextStimulus_nil ht, ht⟩

/-! ### The moves, the disarmed timer and the configuration -/

/-- Settles O6: `takeStimulus` is the state with the move taken, and after `offerWord` it is the state that the word was
offered to. -/
theorem stepRunsTheDecodedInstruction : Obligations.StepRunsTheDecodedInstruction := by
  refine ⟨fun s w i hn hp hd => step_word_command hn hp hd, fun s hn => step_timer hn, fun s hn => step_reset hn, ?_⟩
  intro s nbits w i hi
  have hn : nextStimulus (s.withFetchWord nbits w) = .word (tableWord nbits w) := rfl
  exact step_word_command hn rfl (decode_of_decodeTableWord hi)

/-- Settles O21: TICK tests the timer first. -/
theorem disarmedTimerDoesNotTick : Obligations.DisarmedTimerDoesNotTick := by
  intro s hdisarmed
  change execTick s = .next s
  simp only [execTick, hdisarmed, Bool.false_eq_true, if_false]

/-- Settles O42: `instantiate` tests `wellFormed`, which is the conjunction of the ranges. -/
theorem illegalConfigurationIsRefused : Obligations.IllegalConfigurationIsRefused := by
  intro p
  split_ifs with hp
  · exact if_pos (p.wellFormed_iff.mpr hp)
  · exact if_neg fun hwf => hp (p.wellFormed_iff.mp hwf)

end Sys2Proof.Machine


namespace Sys2Proof.Machine

/-! ### What one step can do -/

/-- The transitions of the producer port on the move `m` (R84, R90, R100 to R106, R180 to R190). The port takes a word
only with no PUSH in flight, so every case but the two micro-steps leaves from IDLE. -/
inductive PortMove (m : Stimulus) (s : State) : State → Prop
  | nothingInFlight (hm : m = .producer) (hp : s.pushStage = .idle) : PortMove m s s
  | published (hp : s.pushStage = .written) : PortMove m s (pushB s)
  | cleared (hp : s.pushStage = .published) : PortMove m s (pushC s)
  | turnedAway {w : CommandWord} {r : Response} (hm : m = .word w) (hp : s.pushStage = .idle) (hr : r ≠ .ok) :
      PortMove m s (respond r s)
  | written {w : CommandWord} {c : Column} (hm : m = .word w) (hd : decode w = .command (.push c))
      (hp : s.pushStage = .idle) (hh : s.halted = false) (hf : bufferFull s = false) (hw : s.writeEnd < s.params.cap)
      (hg : s.params.pushGranularity = .split) :
      PortMove m s { s with slots := Memory.write s.params s.writeEnd c s.slots, pushStage := .written }
  | pushed {w : CommandWord} {c : Column} (hm : m = .word w) (hd : decode w = .command (.push c))
      (hp : s.pushStage = .idle) (hh : s.halted = false) (hf : bufferFull s = false) (hw : s.writeEnd < s.params.cap)
      (hg : s.params.pushGranularity = .atomic) :
      PortMove m s (acceptPush (publishColumn { s with slots := Memory.write s.params s.writeEnd c s.slots }))
  | directed {w : CommandWord} {dneg : Bool} (hm : m = .word w) (hd : decode w = .command (.setdir dneg))
      (hp : s.pushStage = .idle) (hh : s.halted = false) : PortMove m s (respond .ok { s with dneg := dneg })
  | highlighted {w : CommandWord} {n : Arg} (hm : m = .word w) (hd : decode w = .command (.sethl n))
      (hp : s.pushStage = .idle) (hh : s.halted = false) :
      PortMove m s (respond .ok { s with highlightedSteps := clampHighlighted s.params n })
  | timed {w : CommandWord} {rpm : Arg} (hm : m = .word w) (hd : decode w = .command (.setspeed rpm))
      (hp : s.pushStage = .idle) (hh : s.halted = false) (hr : rpmAccepted rpm = true) :
      PortMove m s (respond .ok { s with stepDelayMs := intervalOf s.params rpm, timerArmed := true })
  | shutDown {w : CommandWord} (hm : m = .word w) (hd : decode w = .command .shutdown)
      (hp : s.pushStage = .idle) (hh : s.halted = false) :
      PortMove m s (respond .ok { s with timerArmed := false, halted := true })

section
variable {m : Stimulus} {s t : State} {w : CommandWord} {c : Column}

/-- A producer turn, and a word that waits for the PUSH in flight, run the next micro-step. -/
theorem pushContinue_portMove (hm : s.pushStage = .idle → m = .producer) : PortMove m s (pushContinue s) := by
  cases hp : s.pushStage <;> simp only [pushContinue, hp]
  case idle => exact .nothingInFlight (hm hp) hp
  case written => exact .published hp
  case published => exact .cleared hp

/-- The gate lets a command through to a running block with no PUSH in flight. -/
theorem portCommand_eq_run {run : State → Host.Outcome State Fault Refusal} (hh : s.halted = false)
    (hp : s.pushStage = .idle) : portCommand run s = run s := by
  simp only [portCommand, hh, hp, Bool.false_eq_true, if_false, if_true]

/-- A PUSH that an idle port takes is turned away, written or, in an atomic block, pushed. -/
theorem execPush_portMove (hm : m = .word w) (hd : decode w = .command (.push c)) (hp : s.pushStage = .idle)
    (hh : s.halted = false) (h : execPush c s = .next t) : PortMove m s t := by
  obtain ⟨hh', -⟩ | ⟨-, -, hstart⟩ | ⟨-, hp', -⟩ | ⟨-, hp', -⟩ := execPush_cases c s t h
  · simp [hh] at hh'
  · obtain ⟨-, rfl⟩ | ⟨hf, hw, hg, rfl⟩ | ⟨hf, hw, hg, rfl⟩ := pushStart_cases c s t hstart
    · exact .turnedAway hm hp (by decide)
    · exact .pushed hm hd hp hh hf hw hg
    · exact .written hm hd hp hh hf hw hg
  · simp [hp] at hp'
  · simp [hp] at hp'

/-- The command of a word that an idle port takes. -/
theorem exec_command_portMove {i : Instr} (hm : m = .word w) (hd : decode w = .command i) (hp : s.pushStage = .idle)
    (hh : s.halted = false) (h : exec i s = .next t) : PortMove m s t := by
  cases i with
  | push c => exact execPush_portMove hm hd hp hh h
  | setdir dneg =>
    cases (portCommand_eq_run hh hp).symm.trans h
    exact .directed hm hd hp hh
  | sethl n =>
    cases (portCommand_eq_run hh hp).symm.trans h
    exact .highlighted hm hd hp hh
  | setspeed rpm =>
    have hset : setSpeed rpm s = .next t := (portCommand_eq_run hh hp).symm.trans h
    obtain ⟨hr, heq⟩ | ⟨-, heq⟩ := setSpeed_cases rpm s <;> cases heq.symm.trans hset
    · exact .timed hm hd hp hh hr
    · exact .turnedAway hm hp (by decide)
  | shutdown =>
    cases (portCommand_eq_run hh hp).symm.trans h
    exact .shutDown hm hd hp hh
  | tick => cases decode_isCommand hd
  | reset => cases decode_isCommand hd

/-- A word that an idle port takes. -/
theorem handleWord_portMove (hm : m = .word w) (hp : s.pushStage = .idle) (h : handleWord w s = .next t) :
    PortMove m s t := by
  obtain ⟨-, heq⟩ | ⟨hh, i, hd, heq⟩ | ⟨-, -, heq⟩ | ⟨-, -, heq⟩ := handleWord_cases w s <;> rw [heq] at h
  · cases h
    exact .turnedAway hm hp (by decide)
  · exact exec_command_portMove hm hd hp hh h
  · cases h
    exact .turnedAway hm hp (by decide)
  · cases h
    exact .turnedAway hm hp (by decide)

/-- A move of the surroundings that is the producer port's: a word or a producer turn. -/
def Stimulus.isProducer : Stimulus → Bool
  | .word _ => true
  | .producer => true
  | .timer => false
  | .reset => false

/-- The two events are the moves that are not the producer's (R11). -/
theorem Stimulus.isProducer_iff : m.isProducer = true ↔ m ≠ .timer ∧ m ≠ .reset := by
  cases m <;> simp [Stimulus.isProducer]

/-- A step on a move of the producer is one of the port's; only a word that waits for the PUSH in flight stays on the
agenda (R90). -/
theorem step_portMove (hm : (nextStimulus s).isProducer = true) (h : step s = .next t) :
    ∃ moves, (moves = s.agenda ∨ moves = s.agenda.tail) ∧
      PortMove (nextStimulus s) { s with agenda := moves } t := by
  cases hn : nextStimulus s with
  | word w =>
    by_cases hp : s.pushStage = .idle
    · rw [step_word_idle hn hp] at h
      exact ⟨_, .inr rfl, handleWord_portMove rfl hp h⟩
    · rw [step_word_inFlight hn hp] at h
      cases h
      exact ⟨_, .inl rfl, pushContinue_portMove fun hp' => absurd hp' hp⟩
  | producer =>
    rw [step_producer hn] at h
    cases h
    exact ⟨_, .inr rfl, pushContinue_portMove fun _ => rfl⟩
  | timer => simp [hn, Stimulus.isProducer] at hm
  | reset => simp [hn, Stimulus.isProducer] at hm

/-- A step at the timer's turn is a TICK, or, with the timer disarmed, takes the move alone (R14). -/
theorem step_timer_cases (hn : nextStimulus s = .timer) (h : step s = .next t) :
    (s.timerArmed = true ∧ ∃ out, renderColumn s = .ok out ∧ t = tickAdvance out (takeStimulus s)) ∨
      (s.timerArmed = false ∧ t = takeStimulus s) :=
  execTick_cases (takeStimulus s) t ((step_timer hn).symm.trans h)

/-- A RESET step gives the reset state with the moves still to come (R230). -/
theorem step_reset_eq (hn : nextStimulus s = .reset) (h : step s = .next t) : t = resetState (takeStimulus s) := by
  cases (step_reset hn).symm.trans h
  rfl

/-- What one step can do: a move of the producer port, a TICK, nothing on a disarmed timer, or RESET (R12). -/
theorem step_next_cases (h : step s = .next t) :
    ((nextStimulus s).isProducer = true ∧ ∃ moves, (moves = s.agenda ∨ moves = s.agenda.tail) ∧
        PortMove (nextStimulus s) { s with agenda := moves } t) ∨
      (nextStimulus s = .timer ∧ s.timerArmed = true ∧
        ∃ out, renderColumn s = .ok out ∧ t = tickAdvance out (takeStimulus s)) ∨
      (nextStimulus s = .timer ∧ s.timerArmed = false ∧ t = takeStimulus s) ∨
      (nextStimulus s = .reset ∧ t = resetState (takeStimulus s)) := by
  by_cases hm : (nextStimulus s).isProducer = true
  · exact .inl ⟨hm, step_portMove hm h⟩
  · cases hn : nextStimulus s with
    | word w => simp [hn, Stimulus.isProducer] at hm
    | producer => simp [hn, Stimulus.isProducer] at hm
    | timer =>
      obtain htick | hnone := step_timer_cases hn h
      · exact .inr (.inl ⟨rfl, htick⟩)
      · exact .inr (.inr (.inl ⟨rfl, hnone⟩))
    | reset => exact .inr (.inr (.inr ⟨rfl, step_reset_eq hn h⟩))

/-! ### What the producer port and the TICK leave alone -/

section
variable (h : PortMove m s t)
include h

/-- The producer port changes no parameter. -/
theorem PortMove.params_eq : t.params = s.params := by cases h <;> rfl

/-- The producer port takes no further move from the agenda. -/
theorem PortMove.agenda_eq : t.agenda = s.agenda := by cases h <;> rfl

/-- The producer port moves no read cursor and no sweep phase (R54). -/
theorem PortMove.readSide_eq :
    t.readFront = s.readFront ∧ t.readBack = s.readBack ∧ t.pixelStep = s.pixelStep ∧ t.backStep = s.backStep := by
  cases h <;> exact ⟨rfl, rfl, rfl, rfl⟩

/-- The producer port leaves the motor's phase and every output pin as they are (R54). -/
theorem PortMove.outputs_eq :
    t.phaseIndex = s.phaseIndex ∧ t.coil = s.coil ∧ t.data = s.data ∧ t.clk = s.clk ∧ t.latch = s.latch ∧
      t.oe = s.oe := by
  cases h <;> exact ⟨rfl, rfl, rfl, rfl, rfl, rfl⟩

/-- The producer port writes `underrun` at the end of an accepted PUSH alone, and then clears it (R102, R105). -/
theorem PortMove.underrun_cases :
    t.underrun = s.underrun ∨
      (t.underrun = false ∧ t.pushStage = .idle ∧ t.trace = s.trace ++ [.resp 0x00] ∧
        (s.pushStage = .published ∨
          ∃ (w : CommandWord) (c : Column), m = .word w ∧ decode w = .command (.push c) ∧
            s.params.pushGranularity = .atomic ∧ t.writeEnd = (s.writeEnd + 1) % s.params.cap)) := by
  cases h
  case cleared hp => exact .inr ⟨rfl, rfl, rfl, .inl hp⟩
  case pushed w c hm hd hp _ _ _ hg => exact .inr ⟨rfl, hp, rfl, .inr ⟨w, c, hm, hd, hg, rfl⟩⟩
  all_goals exact .inl rfl

end

end

/-- The fields that a TICK does not write: the write side, the configuration, OE and the parameters (R54). -/
theorem tickAdvance_frame (out : Column) (s : State) :
    (tickAdvance out s).writeEnd = s.writeEnd ∧ (tickAdvance out s).slots = s.slots ∧
      (tickAdvance out s).dneg = s.dneg ∧ (tickAdvance out s).highlightedSteps = s.highlightedSteps ∧
      (tickAdvance out s).stepDelayMs = s.stepDelayMs ∧ (tickAdvance out s).timerArmed = s.timerArmed ∧
      (tickAdvance out s).halted = s.halted ∧ (tickAdvance out s).pushStage = s.pushStage ∧
      (tickAdvance out s).oe = s.oe ∧ (tickAdvance out s).params = s.params := by
  rw [tickAdvance_eq]
  exact ⟨rfl, rfl, rfl, rfl, rfl, rfl, rfl, rfl, rfl, rfl⟩

/-- `underrun` after a TICK: set by a front wrap that finds the buffer empty, else kept (R141). -/
@[simp] theorem tickAdvance_underrun (out : Column) (s : State) :
    (tickAdvance out s).underrun = underrunAfterTick s := by rw [tickAdvance_eq]

/-- The front sweep phase after a TICK (R139). -/
@[simp] theorem tickAdvance_pixelStep (out : Column) (s : State) :
    (tickAdvance out s).pixelStep = nextStep s.params s.pixelStep := by rw [tickAdvance_eq]

/-- A TICK that changes `underrun` sets it, at a front wrap on an empty buffer (R141). -/
theorem underrunAfterTick_ne {s : State} (h : underrunAfterTick s ≠ s.underrun) :
    underrunAfterTick s = true ∧ nextStep s.params s.pixelStep = 0 ∧ s.readFront = s.writeEnd := by
  cases hu : s.underrun <;> simp_all [underrunAfterTick]

/-- Settles O45: each of the four kinds of step keeps the parameters. -/
theorem noTransitionChangesAParameter : Obligations.NoTransitionChangesAParameter := by
  intro s t h
  obtain ⟨-, moves, -, hmove⟩ | ⟨-, -, out, -, rfl⟩ | ⟨-, -, rfl⟩ | ⟨-, rfl⟩ := step_next_cases h
  · exact hmove.params_eq
  · obtain ⟨-, -, -, -, -, -, -, -, -, hparams⟩ := tickAdvance_frame out (takeStimulus s)
    exact hparams
  · rfl
  · rfl

/-- Settles O46, from the frames of the port's moves and of TICK. -/
theorem eachAgentWritesOnlyWhatItOwns : Obligations.EachAgentWritesOnlyWhatItOwns := by
  refine ⟨fun s t h htimer hreset => ?_, fun s t h hn => ?_⟩
  · obtain ⟨moves, -, hmove⟩ := step_portMove (Stimulus.isProducer_iff.mpr ⟨htimer, hreset⟩) h
    obtain ⟨hfront, hback, hpixel, hbackStep⟩ := hmove.readSide_eq
    obtain ⟨hphase, hcoil, hdata, hclk, hlatch, hoe⟩ := hmove.outputs_eq
    refine ⟨hfront, hback, hpixel, hbackStep, hphase, hcoil, hdata, hclk, hlatch, hoe, fun hset => ?_⟩
    obtain hkept | ⟨hclear, -⟩ := hmove.underrun_cases
    · exact hkept.symm.trans hset
    · simp [hclear] at hset
  · obtain ⟨-, out, -, rfl⟩ | ⟨-, rfl⟩ := step_timer_cases hn h
    · obtain ⟨hw, hslots, hdneg, hhl, hdelay, harmed, hhalted, hstage, hoe, -⟩ :=
        tickAdvance_frame out (takeStimulus s)
      refine ⟨hw, hslots, hdneg, hhl, hdelay, harmed, hhalted, hstage, hoe, fun hset => ?_⟩
      simp [underrunAfterTick, hset]
    · exact ⟨rfl, rfl, rfl, rfl, rfl, rfl, rfl, rfl, rfl, id⟩

/-- Settles O47: a port's move that changes `underrun` ends an accepted PUSH, and a TICK that does wraps on an empty
buffer. -/
theorem onlyTickSetsAndPushClearsUnderrun : Obligations.OnlyTickSetsAndPushClearsUnderrun := by
  intro s t h hreset hne
  obtain ⟨hm, moves, -, hmove⟩ | ⟨hn, harmed, out, -, rfl⟩ | ⟨-, -, rfl⟩ | ⟨hn, -⟩ := step_next_cases h
  · obtain hkept | ⟨hclear, hstage, htrace, hwhy⟩ := hmove.underrun_cases
    · exact absurd hkept hne
    · exact .inr ⟨hclear, (Stimulus.isProducer_iff.mp hm).1, hstage, htrace, hwhy⟩
  · rw [tickAdvance_underrun] at hne
    obtain ⟨hset, hwrap, hempty⟩ := underrunAfterTick_ne hne
    exact .inl ⟨(tickAdvance_underrun out _).trans hset, hn, harmed, (tickAdvance_pixelStep out _).trans hwrap, hempty⟩
  · exact absurd rfl hne
  · exact absurd hn hreset

/-! ### The halted block -/

/-- How many words stand first on the agenda: one where a word comes next. -/
theorem wordsIn_take_one (s : State) :
    wordsIn (s.agenda.take 1) = 1 ↔ ∃ w, nextStimulus s = .word w := by
  cases ha : s.agenda with
  | nil => simp [nextStimulus, ha, wordsIn]
  | cons m ms => cases m <;> simp [nextStimulus, ha, wordsIn]

/-- Settles O7: under the invariant a halted block has its timer disarmed and no PUSH in flight. -/
theorem haltedBlockOnlyAnswersHalted : Obligations.HaltedBlockOnlyAnswersHalted := by
  refine ⟨fun i s hi hh => exec_command_of_halted hi hh, fun s hinv hh hreset => ?_⟩
  obtain ⟨-, -, -, -, -, -, ⟨-, hstage⟩, -, harmed, -⟩ := hinv
  have hidle : s.pushStage = .idle := hstage hh
  have hdisarmed : s.timerArmed = false := by rw [harmed, hh]; rfl
  have hwords := wordsIn_take_one s
  cases hn : nextStimulus s with
  | word w =>
    rw [step_word_idle hn hidle, if_pos (hwords.mpr ⟨w, hn⟩)]
    exact if_pos hh
  | producer =>
    rw [step_producer hn, if_neg (by simp [hwords, hn])]
    simp [pushContinue, hidle, takeStimulus]
  | timer =>
    rw [step_timer hn, if_neg (by simp [hwords, hn]), disarmedTimerDoesNotTick (takeStimulus s) hdisarmed]
    simp [takeStimulus]
  | reset => exact absurd hn hreset

/-! ### No transition reads the interval -/

/-- The same state with another interval. -/
def State.withDelay (delay : BitVec 32) (s : State) : State := { s with stepDelayMs := delay }

/-- A transition that does not read the interval: from another one it gives the same state, up to the interval (R42).
SETSPEED writes it, so the outcomes are compared with the interval set to 0. -/
def DelayBlind (f : State → Host.Outcome State Fault Refusal) : Prop :=
  ∀ (delay : BitVec 32) (s : State),
    seenThrough (State.withDelay 0) (f (s.withDelay delay)) = seenThrough (State.withDelay 0) (f s)

/-- The port's gate does not read the interval. -/
theorem portCommand_delayBlind {run : State → Host.Outcome State Fault Refusal} (hrun : DelayBlind run) :
    DelayBlind (portCommand run) := by
  intro delay s
  have hhalted : (s.withDelay delay).halted = s.halted := rfl
  have hstage : (s.withDelay delay).pushStage = s.pushStage := rfl
  simp only [portCommand, hhalted, hstage]
  split_ifs
  · rfl
  · exact hrun delay s
  · rfl

/-- SETSPEED computes the interval from its operand and the parameters alone (R185). -/
theorem setSpeed_delayBlind (rpm : Arg) : DelayBlind (setSpeed rpm) := by
  intro delay s
  cases hr : rpmAccepted rpm <;> simp only [setSpeed, hr] <;> rfl

/-- No micro-step of the PUSH in flight reads the interval. -/
theorem pushContinue_withDelay (delay : BitVec 32) (s : State) :
    pushContinue (s.withDelay delay) = (pushContinue s).withDelay delay := by
  have hstage : (s.withDelay delay).pushStage = s.pushStage := rfl
  cases hp : s.pushStage <;> simp only [pushContinue, hstage, hp] <;> rfl

/-- A MemWrite does not read the interval. -/
theorem memWrite_withDelay (i : Nat) (v : Column) (delay : BitVec 32) (s : State) :
    memWrite i v (s.withDelay delay) = (memWrite i v s).map (State.withDelay delay) := by
  by_cases h : i < s.params.cap <;> simp [memWrite, State.withDelay, h, Except.map]

/-- The first transition of a PUSH does not read the interval. -/
theorem pushStart_delayBlind (c : Column) : DelayBlind (pushStart c) := by
  intro delay s
  have hparams : (s.withDelay delay).params = s.params := rfl
  have hfull : bufferFull (s.withDelay delay) = bufferFull s := rfl
  have hend : (s.withDelay delay).writeEnd = s.writeEnd := rfl
  simp only [pushStart, pushAtomic, pushA, hparams, hfull, hend, memWrite_withDelay]
  cases bufferFull s
  case true => cases s.params.pushGranularity <;> rfl
  case false =>
    cases memWrite s.writeEnd c s with
    | error f => cases s.params.pushGranularity <;> rfl
    | ok t => cases s.params.pushGranularity <;> rfl

/-- PUSH does not read the interval, whatever is in flight. -/
theorem execPush_delayBlind (c : Column) : DelayBlind (execPush c) := by
  intro delay s
  have hhalted : (s.withDelay delay).halted = s.halted := rfl
  have hstage : (s.withDelay delay).pushStage = s.pushStage := rfl
  simp only [execPush, hhalted, hstage, pushContinue_withDelay]
  split_ifs
  · rfl
  · cases s.pushStage
    case idle => exact pushStart_delayBlind c delay s
    case written | published => rfl

/-- TICK does not read the interval: the model keeps no time (R42). -/
theorem execTick_delayBlind : DelayBlind execTick := by
  intro delay s
  have harmed : (s.withDelay delay).timerArmed = s.timerArmed := rfl
  have hrender : renderColumn (s.withDelay delay) = renderColumn s := rfl
  simp only [execTick, harmed, hrender]
  cases s.timerArmed
  case false => rfl
  case true =>
    cases renderColumn s with
    | error f => rfl
    | ok out =>
      simp only [tickAdvance_eq]
      rfl

/-- No instruction reads the interval (R42). -/
theorem exec_delayBlind (i : Instr) : DelayBlind (exec i) := by
  cases i with
  | push c => exact execPush_delayBlind c
  | setdir dneg => exact portCommand_delayBlind fun _ _ => rfl
  | sethl n => exact portCommand_delayBlind fun _ _ => rfl
  | setspeed rpm => exact portCommand_delayBlind (setSpeed_delayBlind rpm)
  | shutdown => exact portCommand_delayBlind fun _ _ => rfl
  | tick => exact execTick_delayBlind
  | reset => exact fun _ _ => rfl

/-- The port's handling of a word does not read the interval. -/
theorem handleWord_delayBlind (w : CommandWord) : DelayBlind (handleWord w) := by
  intro delay s
  have hhalted : (s.withDelay delay).halted = s.halted := rfl
  simp only [handleWord, hhalted]
  split_ifs
  · rfl
  · cases decode w with
    | command i => exact exec_delayBlind i delay s
    | badArg => rfl
    | illegalOpcode => rfl

/-- Settles O50: every move runs a transition that is `DelayBlind`. -/
theorem intervalChangesNoTransition : Obligations.IntervalChangesNoTransition := by
  intro s delay
  change seenThrough (State.withDelay 0) (step (s.withDelay delay)) = seenThrough (State.withDelay 0) (step s)
  have hnext : nextStimulus (s.withDelay delay) = nextStimulus s := rfl
  cases hn : nextStimulus s with
  | word w =>
    by_cases hp : s.pushStage = .idle
    · rw [step_word_idle hn hp, step_word_idle (hnext.trans hn) hp]
      exact handleWord_delayBlind w delay (takeStimulus s)
    · rw [step_word_inFlight hn hp, step_word_inFlight (hnext.trans hn) hp, pushContinue_withDelay]
      rfl
  | producer =>
    rw [step_producer hn, step_producer (hnext.trans hn)]
    have htake : takeStimulus (s.withDelay delay) = (takeStimulus s).withDelay delay := rfl
    rw [htake, pushContinue_withDelay]
    rfl
  | timer =>
    rw [step_timer hn, step_timer (hnext.trans hn)]
    exact execTick_delayBlind delay (takeStimulus s)
  | reset =>
    rw [step_reset hn, step_reset (hnext.trans hn)]
    exact exec_delayBlind .reset delay (takeStimulus s)

end Sys2Proof.Machine


namespace Sys2Proof.Machine

/-! ### The reset state -/

/-- The place of the back sweep at reset: `(−L) mod SPP`, the ticks of a pixel that lie behind it (R41). -/
def backStart (p : Params) : Nat := (p.spp - p.columnOffset % p.spp) % p.spp

section
variable {p : Params} (hp : p.wellFormed = true)
include hp

theorem spp_pos : 0 < p.spp := by
  obtain ⟨-, -, hspp, -⟩ := p.wellFormed_iff.mp hp
  exact hspp

theorem cap_pos : 0 < p.cap := by
  obtain ⟨hcap, -⟩ := p.wellFormed_iff.mp hp
  omega

/-- A count of ticks within a pixel fits the 8 bits of a sweep phase (R31). -/
theorem toNat_ofNat_of_le_spp {k : Nat} (hk : k ≤ p.spp) : (BitVec.ofNat 8 k).toNat = k := by
  obtain ⟨-, -, -, hspp, -⟩ := p.wellFormed_iff.mp hp
  rw [BitVec.toNat_ofNat, Nat.mod_eq_of_lt (by omega)]

/-- The next value of a sweep phase as a number (R139). -/
theorem nextStep_toNat (k : BitVec 8) : (nextStep p k).toNat = (k.toNat + 1) % p.spp :=
  toNat_ofNat_of_le_spp hp (Nat.mod_lt _ (spp_pos hp)).le

theorem backStart_lt : backStart p < p.spp := Nat.mod_lt _ (spp_pos hp)

/-- The back sweep phase at reset is its place there. -/
theorem resetOf_backStep_toNat : (State.resetOf p).backStep.toNat = backStart p :=
  toNat_ofNat_of_le_spp hp (backStart_lt hp).le

/-- `L` ticks on from its place at reset, the back sweep is at the start of a pixel. -/
theorem spp_dvd_backStart_add : p.spp ∣ backStart p + p.columnOffset := by
  have hlt : p.columnOffset % p.spp < p.spp := Nat.mod_lt _ (spp_pos hp)
  apply Nat.dvd_of_mod_eq_zero
  calc (backStart p + p.columnOffset) % p.spp
      = (p.spp - p.columnOffset % p.spp + p.columnOffset % p.spp) % p.spp := by simp [backStart, Nat.add_mod]
    _ = 0 := by rw [Nat.sub_add_cancel hlt.le, Nat.mod_self]

/-- The place of the back sweep at reset in the form of the reset table (R41). -/
theorem backStart_eq_emod : (backStart p : Int) = (0 - (p.columnOffset : Int)) % p.spp := by
  have hdvd : (p.spp : Int) ∣ backStart p + p.columnOffset := by exact_mod_cast spp_dvd_backStart_add hp
  have hlt : (backStart p : Int) < p.spp := by exact_mod_cast backStart_lt hp
  rw [← Int.emod_eq_of_lt (Int.natCast_nonneg _) hlt]
  exact Int.emod_eq_emod_iff_emod_sub_eq_zero.mpr (Int.emod_eq_zero_of_dvd (by simpa using hdvd))

/-- The back cursor at reset, `−BACK_LAG` modulo CAP, as an equation of whole numbers (R41). -/
theorem resetOf_readBack : ((State.resetOf p).readBack : Int) = (0 - (p.backLag : Int)) % p.cap :=
  Int.toNat_of_nonneg (Int.emod_nonneg _ (Int.natCast_pos.mpr (cap_pos hp)).ne')

/-- Where nothing is written a slot of a legal block is its INIT_SLOTS byte (R63). -/
theorem initSlots_getElem? {i : Nat} (hi : i < p.cap) : p.initSlots[i]? = some (unwrittenSlot p i) := by
  obtain ⟨-, -, -, -, -, -, -, -, hlen⟩ := p.wellFormed_iff.mp hp
  rw [unwrittenSlot, List.getD_eq_getElem?_getD, List.getElem?_eq_getElem (hlen.symm ▸ hi), Option.getD_some]

/-- The reset state of a legal block is a good one (R49, R56). -/
theorem resetOf_inv : (State.resetOf p).Inv := by
  have hcap : 0 < p.cap := cap_pos hp
  have hbackLt : (State.resetOf p).readBack < p.cap := by
    have hlt : (0 - (p.backLag : Int)) % p.cap < p.cap := Int.emod_lt_of_pos _ (Int.natCast_pos.mpr hcap)
    rw [← resetOf_readBack hp] at hlt
    exact_mod_cast hlt
  have hstep := resetOf_backStep_toNat hp
  have hunread : unread (State.resetOf p) = 0 := by simp [unread, State.resetOf]
  obtain ⟨hcap3, -, -, -, -, -, -, hhl, -⟩ := p.wellFormed_iff.mp hp
  refine ⟨hp, ⟨hcap, hcap, hbackLt⟩, ⟨spp_pos hp, hstep.trans_lt (backStart_lt hp), hhl⟩, ?_, ⟨?_, nofun⟩,
    fun _ => .inl rfl, ⟨fun _ => rfl, nofun⟩, ⟨rfl, rfl, rfl⟩, rfl, Memory.wf_nil p⟩
  · exact (congrArg Nat.cast hstep).trans (backStart_eq_emod hp)
  · rw [hunread]
    exact (Nat.le_succ 2).trans hcap3

end

/-- Settles O40: `State.resetOf` is the reset table, its two computed entries by `resetOf_readBack` and
`backStart_eq_emod`. -/
theorem resetEstablishesTheResetTable : Obligations.ResetEstablishesTheResetTable := by
  intro s hp
  refine ⟨resetState s, rfl, rfl, rfl, resetOf_readBack hp, rfl, ?_, rfl, rfl, rfl, rfl, rfl,
    fun i hi => initSlots_getElem? hp hi, rfl, rfl, rfl, rfl, rfl, rfl, rfl, rfl, rfl, rfl, rfl⟩
  exact (congrArg Nat.cast (resetOf_backStep_toNat hp)).trans (backStart_eq_emod hp)

/-- Settles O41; the reference configuration is legal. -/
theorem resetMeetsTheInvariant : Obligations.ResetMeetsTheInvariant :=
  ⟨fun _ hp => resetOf_inv hp, resetOf_inv (by decide)⟩

/-! ### The unread columns -/

/-- The next index without the remainder: the last slot is followed by slot 0. -/
theorem nextIndex_eq {p : Params} {i : Nat} (h : i < p.cap) :
    nextIndex p i = if i + 1 = p.cap then 0 else i + 1 := by
  unfold nextIndex
  split_ifs with hlast
  · rw [hlast, Nat.mod_self]
  · exact Nat.mod_eq_of_lt (by omega)

/-- The number of unread columns without the remainder: the write cursor is ahead of the front one, or has gone round
(R48). -/
theorem unread_eq {s : State} (hw : s.writeEnd < s.params.cap) (hf : s.readFront < s.params.cap) :
    unread s = if s.readFront ≤ s.writeEnd then s.writeEnd - s.readFront else s.writeEnd + s.params.cap - s.readFront := by
  unfold unread
  split_ifs with hle
  · rw [Int.emod_eq_of_lt (by omega) (by omega)]
    omega
  · rw [← Int.add_emod_right, Int.emod_eq_of_lt (by omega) (by omega)]
    omega

/-- The full test in terms of the unread columns: CAP − 2 of them (R100, R108). -/
theorem bufferFull_iff_unread {s : State} (hcap : 2 ≤ s.params.cap) (hw : s.writeEnd < s.params.cap)
    (hf : s.readFront < s.params.cap) : bufferFull s = true ↔ unread s + 2 = s.params.cap := by
  have htwoBehind : (s.readFront + s.params.cap - 2) % s.params.cap =
      if 2 ≤ s.readFront then s.readFront - 2 else s.readFront + s.params.cap - 2 := by
    split_ifs with h2
    · rw [Nat.sub_add_comm h2, Nat.add_mod_right, Nat.mod_eq_of_lt (by omega)]
    · exact Nat.mod_eq_of_lt (by omega)
  rw [bufferFull, beq_iff_eq, htwoBehind, unread_eq hw hf]
  split_ifs <;> omega

/-- The advance of the write cursor publishes one column, unless it would catch up with the front cursor (R48, R101). -/
theorem unread_publishColumn {s : State} (hw : s.writeEnd < s.params.cap) (hf : s.readFront < s.params.cap)
    (hroom : unread s + 1 < s.params.cap) : unread (publishColumn s) = unread s + 1 := by
  have hpub : unread (publishColumn s) = _ := unread_eq (nextIndex_lt hw) hf
  rw [unread_eq hw hf] at hroom ⊢
  rw [hpub, publishColumn_writeEnd, publishColumn_readFront, publishColumn_params, nextIndex_eq hw]
  split_ifs at hroom ⊢ <;> omega

/-- An advance of the front cursor uses up one unread column, if there is one (R33, R49 item 3). -/
theorem unread_advanceFront {s : State} (hw : s.writeEnd < s.params.cap) (hf : s.readFront < s.params.cap)
    (hne : s.readFront ≠ s.writeEnd) :
    unread { s with readFront := nextIndex s.params s.readFront } + 1 = unread s := by
  have hadv : unread { s with readFront := nextIndex s.params s.readFront } = _ := unread_eq hw (nextIndex_lt hf)
  rw [hadv, unread_eq hw hf, nextIndex_eq hf]
  dsimp only
  split_ifs <;> omega

/-- What a TICK does to the front cursor: it stays, or a wrap moves it over one unread column (R141). -/
theorem tickAdvance_front_cases (out : Column) {s : State} (hw : s.writeEnd < s.params.cap)
    (hf : s.readFront < s.params.cap) :
    ((tickAdvance out s).readFront = s.readFront ∧ unread (tickAdvance out s) = unread s) ∨
      (s.readFront ≠ s.writeEnd ∧ (tickAdvance out s).readFront = nextIndex s.params s.readFront ∧
        unread (tickAdvance out s) + 1 = unread s) := by
  by_cases hmove : (nextStep s.params s.pixelStep == 0 && s.readFront != s.writeEnd) = true
  · have hne : s.readFront ≠ s.writeEnd := by simp_all
    have hadv : (tickAdvance out s).readFront = nextIndex s.params s.readFront := by
      rw [tickAdvance_eq]
      exact if_pos hmove
    refine .inr ⟨hne, hadv, ?_⟩
    rw [← unread_advanceFront hw hf hne, ← hadv, tickAdvance_eq]
    rfl
  · have hstay : (tickAdvance out s).readFront = s.readFront := by
      rw [tickAdvance_eq]
      exact if_neg hmove
    refine .inl ⟨hstay, ?_⟩
    unfold unread
    rw [hstay, tickAdvance_eq]

/-- Settles O25: `tickAdvance_front_cases`, with the cursors in range by the invariant. -/
theorem frontCursorNeverPassesWriteCursor : Obligations.FrontCursorNeverPassesWriteCursor := by
  rintro s t ⟨-, ⟨hw, hf, -⟩, -⟩ h
  obtain ⟨-, out, -, rfl⟩ | ⟨-, rfl⟩ := execTick_cases s t h
  · obtain hstay | ⟨-, hmove⟩ := tickAdvance_front_cases out hw hf
    · exact .inl hstay
    · exact .inr hmove
  · exact .inl ⟨rfl, rfl⟩

/-! ### Each operation keeps the invariant -/

section
variable {s : State} (h : s.Inv)
include h

/-- A threshold that SETHL stores is at most SPP (R182). -/
theorem inv_setHighlighted (n : Arg) : { s with highlightedSteps := clampHighlighted s.params n }.Inv := by
  obtain ⟨hp, hcursors, ⟨hpixel, hback, -⟩, hrest⟩ := h
  have hclamp : (clampHighlighted s.params n).toNat = min n.toNat s.params.spp :=
    toNat_ofNat_of_le_spp hp (min_le_right _ _)
  exact ⟨hp, hcursors, ⟨hpixel, hback, hclamp.trans_le (min_le_right _ _)⟩, hrest⟩

/-- A PUSH that is not turned away leaves room for one unread column more (R100). -/
theorem unread_add_three_le (hf : bufferFull s = false) : unread s + 3 ≤ s.params.cap := by
  obtain ⟨hp, ⟨hw, hfront, -⟩, -, -, ⟨hbound, -⟩, -⟩ := h
  have hne : unread s + 2 ≠ s.params.cap := fun hfull =>
    absurd ((bufferFull_iff_unread (by omega) hw hfront).mpr hfull) (by simp [hf])
  omega

/-- A write to a slot keeps the canonical form and nothing else is in question (R61). -/
theorem inv_write (c : Column) : { s with slots := Memory.write s.params s.writeEnd c s.slots }.Inv := by
  obtain ⟨hp, ⟨hw, hreads⟩, hsweep, hoffset, hunread, hunderrun, hstage, hpins, htimer, hmem⟩ := h
  exact ⟨hp, ⟨hw, hreads⟩, hsweep, hoffset, hunread, hunderrun, hstage, hpins, htimer,
    Memory.write_wf s.params s.slots s.writeEnd c hw hmem⟩

/-- PUSH_A takes the place of the column that it has written (R103). -/
theorem inv_written (hp : s.pushStage = .idle) (hh : s.halted = false) (hf : bufferFull s = false)
    (hg : s.params.pushGranularity = .split) : { s with pushStage := .written }.Inv := by
  have hroom := unread_add_three_le h hf
  obtain ⟨hwf, hcursors, hsweep, hoffset, ⟨hbound, -⟩, hunderrun, -, hpins, htimer, hmem⟩ := h
  refine ⟨hwf, hcursors, hsweep, hoffset, ⟨hbound, fun _ => hroom⟩, fun hu => .inl ?_, ⟨?_, ?_⟩, hpins, htimer, hmem⟩
  · exact (hunderrun hu).resolve_right (by simp [hp])
  · exact fun ha => absurd (hg.symm.trans ha) (by simp)
  · exact fun hh' => absurd (hh.symm.trans hh') (by simp)

/-- PUSH_B publishes the column whose place PUSH_A has taken (R104). -/
theorem inv_pushB (hp : s.pushStage = .written) : (pushB s).Inv := by
  obtain ⟨hwf, ⟨hw, hf, hb⟩, hsweep, hoffset, ⟨-, hroom⟩, -, ⟨hatomic, hhalted⟩, hpins, htimer, hmem⟩ := h
  have hroom := hroom hp
  have hunread : unread (pushB s) = unread s + 1 := unread_publishColumn hw hf (by omega)
  refine ⟨hwf, ⟨nextIndex_lt hw, hf, hb⟩, hsweep, hoffset, ⟨?_, nofun⟩, fun _ => .inr rfl, ⟨?_, ?_⟩, hpins, htimer, hmem⟩
  · rw [hunread, pushB_params]
    omega
  · exact fun ha => absurd (hp.symm.trans (hatomic ha)) (by simp)
  · exact fun hh => absurd (hp.symm.trans (hhalted hh)) (by simp)

/-- PUSH_C ends the PUSH out of underrun (R105). -/
theorem inv_pushC : (pushC s).Inv := by
  obtain ⟨hwf, hcursors, hsweep, hoffset, ⟨hbound, -⟩, -, -, hpins, htimer, hmem⟩ := h
  exact ⟨hwf, hcursors, hsweep, hoffset, ⟨hbound, nofun⟩, nofun, ⟨fun _ => rfl, fun _ => rfl⟩, hpins, htimer, hmem⟩

/-- An atomic PUSH publishes its column and ends out of underrun in one transition (R106). -/
theorem inv_publish_accept (hp : s.pushStage = .idle) (hf : bufferFull s = false) :
    (acceptPush (publishColumn s)).Inv := by
  have hroom := unread_add_three_le h hf
  obtain ⟨hwf, ⟨hw, hfront, hb⟩, hsweep, hoffset, -, -, hstage, hpins, htimer, hmem⟩ := h
  have hunread : unread (acceptPush (publishColumn s)) = unread s + 1 := unread_publishColumn hw hfront (by omega)
  refine ⟨hwf, ⟨nextIndex_lt hw, hfront, hb⟩, hsweep, hoffset, ⟨?_, ?_⟩, nofun, hstage, hpins, htimer, hmem⟩
  · rw [hunread, acceptPush_params, publishColumn_params]
    omega
  · exact fun hw' => absurd (hp.symm.trans hw') (by simp)

/-- SETSPEED arms the timer of a running block, where it is armed already (R184, R186). -/
theorem inv_setSpeed (hh : s.halted = false) (delay : BitVec 32) :
    { s with stepDelayMs := delay, timerArmed := true }.Inv := by
  obtain ⟨hwf, hcursors, hsweep, hoffset, hunread, hunderrun, hstage, hpins, -, hmem⟩ := h
  exact ⟨hwf, hcursors, hsweep, hoffset, hunread, hunderrun, hstage, hpins, by simp [State.TimerMatchesHalt, hh], hmem⟩

/-- SHUTDOWN is taken with no PUSH in flight, and disarms the timer with the halt (R190). -/
theorem inv_shutDown (hp : s.pushStage = .idle) : { s with timerArmed := false, halted := true }.Inv := by
  obtain ⟨hwf, hcursors, hsweep, hoffset, hunread, hunderrun, ⟨hatomic, -⟩, hpins, -, hmem⟩ := h
  exact ⟨hwf, hcursors, hsweep, hoffset, hunread, hunderrun, ⟨hatomic, fun _ => hp⟩, hpins, rfl, hmem⟩

/-- Every transition of the producer port keeps the invariant. -/
theorem PortMove.inv {m : Stimulus} {t : State} (hmove : PortMove m s t) : t.Inv := by
  cases hmove with
  | nothingInFlight => exact h
  | published hp => exact inv_pushB h hp
  | cleared => exact inv_pushC h
  | turnedAway => exact h
  | written _ _ hp hh hf _ hg => exact inv_written (inv_write h _) hp hh hf hg
  | pushed _ _ hp _ hf => exact inv_publish_accept (inv_write h _) hp hf
  | directed => exact h
  | highlighted => exact inv_setHighlighted h _
  | @timed _ rpm _ _ _ hh => exact inv_setSpeed (s := s) h hh (intervalOf s.params rpm)
  | shutDown _ _ hp => exact inv_shutDown (s := s) h hp

/-- The two sweep phases keep their distance, since both go on by one (R49 item 2, R139). -/
theorem sweepOffset_next :
    ((nextStep s.params s.backStep).toNat : Int) =
      ((nextStep s.params s.pixelStep).toNat - (s.params.columnOffset : Int)) % s.params.spp := by
  obtain ⟨hp, -, -, hoffset, -⟩ := h
  rw [nextStep_toNat hp, nextStep_toNat hp]
  push_cast
  rw [hoffset, Int.emod_add_emod, Int.emod_sub_emod, sub_add_eq_add_sub]

/-- In underrun a TICK leaves the front cursor on the write cursor, unless a push is PUBLISHED (R49 item 4, R141). -/
theorem tickAdvance_underrunMeansEmpty (out : Column) : (tickAdvance out s).UnderrunMeansEmpty := by
  obtain ⟨-, ⟨hw, hf, -⟩, -, -, -, hunderrun, -⟩ := h
  intro hset
  rw [tickAdvance_underrun] at hset
  obtain ⟨hwriteEnd, -, -, -, -, -, -, hstage, -⟩ := tickAdvance_frame out s
  have hbefore : s.readFront = s.writeEnd ∨ s.pushStage = .published := by
    by_cases hu : s.underrun = true
    · exact hunderrun hu
    · obtain ⟨-, -, hempty⟩ := underrunAfterTick_ne (s := s) (by simp [hset, hu])
      exact .inl hempty
  rw [hwriteEnd, hstage]
  refine hbefore.imp_left fun hempty => ?_
  obtain ⟨hstay, -⟩ | ⟨hne, -⟩ := tickAdvance_front_cases out hw hf
  · exact hstay.trans hempty
  · exact absurd hempty hne

/-- A TICK adds no unread column (R49 item 1). -/
theorem tickAdvance_unreadBounded (out : Column) : (tickAdvance out s).UnreadBounded := by
  obtain ⟨-, ⟨hw, hf, -⟩, -, -, ⟨hbound, hroom⟩, -⟩ := h
  obtain ⟨-, -, -, -, -, -, -, hstage, -, hparams⟩ := tickAdvance_frame out s
  have hless : unread (tickAdvance out s) ≤ unread s := by
    obtain ⟨-, heq⟩ | ⟨-, -, heq⟩ := tickAdvance_front_cases out hw hf <;> omega
  unfold State.UnreadBounded
  rw [hstage, hparams]
  exact ⟨by omega, fun hwritten => by have := hroom hwritten; omega⟩

/-- A TICK keeps the invariant. -/
theorem inv_tickAdvance (out : Column) : (tickAdvance out s).Inv := by
  have hoffset := sweepOffset_next h
  have hunread := tickAdvance_unreadBounded h out
  have hunderrun := tickAdvance_underrunMeansEmpty h out
  obtain ⟨hp, hcursors, ⟨-, -, hhl⟩, -, -, -, hstage, ⟨-, -, hoe⟩, htimer, hmem⟩ := h
  have hcursors := tickAdvance_cursorsInRange hcursors out
  have hnext (k : BitVec 8) : (nextStep s.params k).toNat < s.params.spp :=
    (nextStep_toNat hp k).trans_lt (Nat.mod_lt _ (spp_pos hp))
  rw [tickAdvance_eq] at hcursors hunread hunderrun ⊢
  exact ⟨hp, hcursors, ⟨hnext _, hnext _, hhl⟩, hoffset, hunread, hunderrun, hstage, ⟨rfl, rfl, hoe⟩, htimer, hmem⟩

end

/-- Settles O43: each of the four kinds of step keeps the invariant, which does not speak of the agenda. -/
theorem everyStepKeepsTheInvariant : Obligations.EveryStepKeepsTheInvariant := by
  intro s t h hstep
  obtain ⟨-, moves, -, hmove⟩ | ⟨-, -, out, -, rfl⟩ | ⟨-, -, rfl⟩ | ⟨-, rfl⟩ := step_next_cases hstep
  · exact PortMove.inv (s := { s with agenda := moves }) h hmove
  · exact inv_tickAdvance (s := takeStimulus s) h out
  · exact h
  · obtain ⟨hp, -⟩ := h
    exact resetOf_inv hp

end Sys2Proof.Machine


namespace Sys2Proof.Machine

/-! ### The back sweep, tick by tick from its place at reset -/

/-- The back sweep `k` ticks after its place at reset with no underrun in them: its phase has gone on by `k`, and its
cursor has advanced at each start of a pixel on the way (R41, R139, R143). -/
structure BackSweepAt (p : Params) (k : Nat) (s : State) : Prop where
  params : s.params = p
  phase : s.backStep.toNat = (backStart p + k) % p.spp
  cursor : (s.readBack : Int) = ((((backStart p + k) / p.spp : Nat) : Int) - p.backLag) % p.cap

section
variable {p : Params} (hp : p.wellFormed = true)
include hp

/-- BACK_LAG counts the pixels that the back sweep starts in the first `L` ticks (R10, R41). -/
theorem backLag_mul_spp : p.backLag * p.spp = backStart p + p.columnOffset := by
  obtain ⟨q, hq⟩ := spp_dvd_backStart_add hp
  have hlt := backStart_lt hp
  have hlag : p.backLag = q := by
    unfold Params.backLag
    apply Nat.div_eq_of_lt_le
    · rw [Nat.mul_comm]
      omega
    · rw [Nat.succ_mul, Nat.mul_comm]
      omega
  rw [hlag, hq, Nat.mul_comm]

/-- At tick `L` the back sweep has started BACK_LAG pixels. -/
theorem backPixels_at_offset : (backStart p + p.columnOffset) / p.spp = p.backLag :=
  Nat.div_eq_of_eq_mul_left (spp_pos hp) (backLag_mul_spp hp).symm

/-- Before tick `L` the back sweep has started fewer than BACK_LAG pixels. -/
theorem backPixels_before_offset {k : Nat} (hk : k < p.columnOffset) : (backStart p + k) / p.spp < p.backLag := by
  rw [Nat.div_lt_iff_lt_mul (spp_pos hp), backLag_mul_spp hp]
  omega

/-- The back sweep starts a pixel at the ends of the ticks whose number is `L` modulo SPP. -/
theorem backStart_add_dvd_iff (k : Nat) : p.spp ∣ backStart p + k ↔ k % p.spp = p.columnOffset % p.spp := by
  have hoffset : backStart p + p.columnOffset ≡ 0 [MOD p.spp] :=
    Nat.modEq_zero_iff_dvd.mpr (spp_dvd_backStart_add hp)
  constructor
  · intro hdvd
    exact Nat.ModEq.add_left_cancel' _ ((Nat.modEq_zero_iff_dvd.mpr hdvd).trans hoffset.symm)
  · intro hk
    exact Nat.modEq_zero_iff_dvd.mp ((Nat.ModEq.add_left _ hk).trans hoffset)

/-- The number of these ticks among the first `k`. -/
theorem backPixels_eq_length (k : Nat) :
    ((List.range k).filter (fun j => (j + 1) % p.spp = p.columnOffset % p.spp)).length =
      (backStart p + k) / p.spp := by
  induction k with
  | zero => exact (Nat.div_eq_of_lt (backStart_lt hp)).symm
  | succ k ih =>
    rw [List.range_succ, List.filter_append, List.length_append, ih, ← Nat.add_assoc, Nat.succ_div]
    simp only [Nat.add_assoc, backStart_add_dvd_iff hp]
    split_ifs with hstart <;> simp [hstart]

section
variable {k : Nat} {s : State} (h : BackSweepAt p k s)
include h

/-- The back cursor of the sweep is a slot index. -/
theorem BackSweepAt.readBack_lt : s.readBack < s.params.cap := by
  have hlt := Int.emod_lt_of_pos (((backStart p + k) / p.spp : Nat) - (p.backLag : Int))
    (Int.natCast_pos.mpr (cap_pos hp))
  rw [← h.cursor, ← h.params] at hlt
  exact_mod_cast hlt

/-- A TICK out of underrun takes the back sweep one tick on (R139, R143). -/
theorem BackSweepAt.tick (hu : underrunAfterTick s = false) (out : Column) :
    BackSweepAt p (k + 1) (tickAdvance out s) := by
  obtain ⟨rfl, hphase, hcursor⟩ := h
  have hnext : (nextStep s.params s.backStep).toNat = (backStart s.params + k + 1) % s.params.spp := by
    rw [nextStep_toNat hp, hphase, Nat.mod_add_mod]
  have hwraps : nextStep s.params s.backStep = 0 ↔ s.params.spp ∣ backStart s.params + k + 1 := by
    rw [← BitVec.toNat_inj, hnext, Nat.dvd_iff_mod_eq_zero]
    rfl
  rw [tickAdvance_eq]
  refine ⟨rfl, hnext, ?_⟩
  rw [← Nat.add_assoc, Nat.succ_div]
  simp only [hu, Bool.not_false, Bool.and_true, beq_iff_eq, hwraps]
  split_ifs
  · rw [nextIndex, Int.natCast_mod, Nat.cast_add, hcursor, Nat.cast_one, Int.emod_add_emod]
    push_cast
    ring_nf
  · exact hcursor

/-- At tick `L` the back sweep stands at the start of a pixel on slot 0 (R41, R148 item 3). -/
theorem BackSweepAt.at_offset (hk : k = p.columnOffset) :
    s.readBack = 0 ∧ s.backStep = 0 := by
  subst hk
  have hcursor := h.cursor
  have hphase := h.phase
  rw [backPixels_at_offset hp, sub_self, Int.zero_emod] at hcursor
  rw [Nat.mod_eq_zero_of_dvd (spp_dvd_backStart_add hp)] at hphase
  exact ⟨by exact_mod_cast hcursor, BitVec.eq_of_toNat_eq hphase⟩

/-- Before tick `L`, with BACK_LAG below CAP, the back cursor is not yet on slot 0. -/
theorem BackSweepAt.before_offset (hk : k < p.columnOffset) (hlag : p.backLag < p.cap) : s.readBack ≠ 0 := by
  intro hzero
  have hcursor := h.cursor
  have hbefore := backPixels_before_offset hp hk
  generalize (backStart p + k) / p.spp = pixels at hcursor hbefore
  rw [hzero, ← Int.add_emod_right, Int.emod_eq_of_lt (by omega) (by omega)] at hcursor
  omega

/-- The phase of the back sweep in the form `(k − L) mod SPP` (R49 item 2). -/
theorem BackSweepAt.phase_eq_emod : (s.backStep.toNat : Int) = ((k : Int) - p.columnOffset) % p.spp := by
  rw [h.phase]
  push_cast
  rw [backStart_eq_emod hp, Int.emod_add_emod, sub_add_eq_add_sub, zero_add]

end

end

/-- At the start of a back pixel the back gate passes its bits, whatever the threshold (R127). -/
theorem backContribution_at_start {s : State} (hstart : s.backStep = 0) (hb : s.readBack < s.params.cap) :
    backContribution s = .ok (s.slot s.readBack &&& s.params.backMask) := by
  simp [backContribution, backGate, hstart, memRead_ok _ _ hb, Except.map]

/-- At the start of a front pixel the front gate passes its bits, whatever the threshold (R123). -/
theorem frontContribution_at_start {s : State} (hstart : s.pixelStep = 0) (hf : s.readFront < s.params.cap) :
    frontContribution s = .ok (s.slot s.readFront &&& s.params.frontMask) := by
  simp [frontContribution, frontGate, hstart, memRead_ok _ _ hf, Except.map]

/-! ### The back sweep over consecutive TICKs -/

/-- One more TICK at the end of a run of TICKs. -/
theorem runTicks_succ_right {n : Nat} {s t u : State} (h : runTicks n s = some t) (hu : exec .tick t = .next u) :
    runTicks (n + 1) s = some u := by
  induction n generalizing s with
  | zero =>
    cases h
    simp only [runTicks, hu]
  | succ n ih =>
    unfold runTicks at h ⊢
    cases hs : exec .tick s with
    | next v =>
      simp only [hs] at h ⊢
      exact ih h
    | fault f => simp [hs] at h
    | refused r => simp [hs] at h

/-- A TICK of an armed timer that renders a byte goes through its eight steps. -/
theorem exec_tick_of_rendered {s : State} {out : Column} (harmed : s.timerArmed = true)
    (hout : renderColumn s = .ok out) : exec .tick s = .next (tickAdvance out s) := by
  simp only [exec, execTick, harmed, hout, if_true]

/-- A TICK leaves the front cursor on a slot. -/
theorem tickAdvance_readFront_lt {s : State} (hf : s.readFront < s.params.cap) (out : Column) :
    (tickAdvance out s).readFront < s.params.cap := by
  rw [tickAdvance_eq]
  dsimp only
  split_ifs
  · exact nextIndex_lt hf
  · exact hf

/-- Consecutive TICKs with no underrun in them take the back sweep on tick by tick, and leave the slots alone. -/
theorem backSweep_runTicks {s : State} (hp : s.params.wellFormed = true) (h : BackSweepAt s.params 0 s)
    (harmed : s.timerArmed = true) (hf : s.readFront < s.params.cap) (n : Nat)
    (hu : ∀ (k : Nat) (t : State), 1 ≤ k → k ≤ n → runTicks k s = some t → t.underrun = false) :
    ∃ t, runTicks n s = some t ∧ BackSweepAt s.params n t ∧ t.timerArmed = true ∧ t.readFront < s.params.cap ∧
      t.slots = s.slots := by
  induction n with
  | zero => exact ⟨s, rfl, h, harmed, hf, rfl⟩
  | succ n ih =>
    obtain ⟨t, hrun, hsweep, harmed', hf', hslots⟩ := ih fun k t h1 hk => hu k t h1 (Nat.le_succ_of_le hk)
    have hf' : t.readFront < t.params.cap := hsweep.params ▸ hf'
    have hb' := hsweep.readBack_lt hp
    obtain ⟨out, hout⟩ : ∃ out, renderColumn t = .ok out := ⟨_, renderColumn_ok t hf' hb'⟩
    have hrun' := runTicks_succ_right hrun (exec_tick_of_rendered harmed' hout)
    have hnoUnderrun : underrunAfterTick t = false :=
      (tickAdvance_underrun out t).symm.trans (hu (n + 1) _ (Nat.le_add_left 1 n) le_rfl hrun')
    obtain ⟨-, hslots', -, -, -, htimer, -⟩ := tickAdvance_frame out t
    refine ⟨_, hrun', hsweep.tick hp hnoUnderrun out, htimer.trans harmed', ?_, hslots'.trans hslots⟩
    rw [← hsweep.params]
    exact tickAdvance_readFront_lt hf' out

/-- The place of the back sweep at reset. -/
theorem BackSweepAt.of_reset {s : State} (hp : s.params.wellFormed = true)
    (hphase : s.backStep = (State.resetOf s.params).backStep)
    (hcursor : s.readBack = (State.resetOf s.params).readBack) : BackSweepAt s.params 0 s where
  params := rfl
  phase := by
    rw [hphase, resetOf_backStep_toNat hp, Nat.add_zero, Nat.mod_eq_of_lt (backStart_lt hp)]
  cursor := by
    rw [hcursor, resetOf_readBack hp, Nat.add_zero, Nat.div_eq_of_lt (backStart_lt hp), Nat.cast_zero]

/-- Settles O29: the sweep of `backSweep_runTicks`, at tick `L` and before it. -/
theorem backCursorTrailsByTheColumnOffset : Obligations.BackCursorTrailsByTheColumnOffset := by
  intro s hp harmed hf hpixel hphase hcursor hu
  have hstart := BackSweepAt.of_reset hp hphase hcursor
  refine ⟨?_, fun hlag k t hk hrun => ?_⟩
  · obtain ⟨t, hrun, hsweep, -, -, hslots⟩ := backSweep_runTicks hp hstart harmed hf _ hu
    obtain ⟨hzero, hpixelStart⟩ := hsweep.at_offset hp rfl
    have hslot : t.slot 0 = s.slot 0 := by rw [State.slot, hslots, hsweep.params, State.slot]
    refine ⟨t, hrun, hzero, hpixelStart, ?_, fun hfront => ⟨hzero.trans hfront.symm, ?_⟩⟩
    · rw [backContribution_at_start hpixelStart (hsweep.readBack_lt hp), hzero, hslot, hsweep.params]
    · rw [frontContribution_at_start hpixel hf, hfront]
  · obtain ⟨t', hrun', hsweep, -⟩ := backSweep_runTicks hp hstart harmed hf k
      fun j u h1 hj => hu j u h1 (hj.trans hk.le)
    cases hrun'.symm.trans hrun
    exact hsweep.before_offset hp hk hlag

/-! ### The back sweep over any run -/

/-- A step takes at most the first move from the agenda. -/
theorem step_agenda_cases {s t : State} (h : step s = .next t) : t.agenda = s.agenda ∨ t.agenda = s.agenda.tail := by
  obtain ⟨-, moves, hmoves, hmove⟩ | ⟨-, -, out, -, rfl⟩ | ⟨-, -, rfl⟩ | ⟨-, rfl⟩ := step_next_cases h
  · rw [hmove.agenda_eq]
    exact hmoves
  · exact .inr (tickAdvance_agenda out _)
  · exact .inr rfl
  · exact .inr rfl

/-- No RESET comes onto the agenda (R12). -/
theorem step_reset_notMem {s t : State} (h : step s = .next t) (hs : .reset ∉ s.agenda) : .reset ∉ t.agenda := by
  obtain heq | heq := step_agenda_cases h <;> rw [heq]
  · exact hs
  · exact fun hmem => hs (List.mem_of_mem_tail hmem)

/-- With no RESET on the agenda the next move is none. -/
theorem nextStimulus_ne_reset {s : State} (hs : .reset ∉ s.agenda) : nextStimulus s ≠ .reset := by
  cases ha : s.agenda with
  | nil => simp [nextStimulus_nil ha]
  | cons m ms =>
    rw [nextStimulus_cons ha]
    exact fun hm => hs (by simp [ha, hm])

/-- A step but RESET takes the back sweep one tick on if it is a TICK out of underrun, and otherwise leaves it. -/
theorem BackSweepAt.step {p : Params} (hp : p.wellFormed = true) {k : Nat} {s t : State} (h : BackSweepAt p k s)
    (hreset : nextStimulus s ≠ .reset) (hu : tickIsNext s = true → underrunAfterTick s = false)
    (hstep : step s = .next t) : BackSweepAt p (k + if tickIsNext s then 1 else 0) t := by
  obtain ⟨hm, moves, -, hmove⟩ | ⟨hn, harmed, out, -, rfl⟩ | ⟨hn, hdisarmed, rfl⟩ | ⟨hn, -⟩ := step_next_cases hstep
  · have hnoTick : tickIsNext s = false := by
      simp [tickIsNext, (Stimulus.isProducer_iff.mp hm).1]
    obtain ⟨-, hback, -, hphase⟩ := hmove.readSide_eq
    rw [hnoTick]
    exact ⟨hmove.params_eq.trans h.params, hphase ▸ h.phase, hback ▸ h.cursor⟩
  · have htick : tickIsNext s = true := by simp [tickIsNext, hn, harmed]
    rw [htick]
    exact BackSweepAt.tick (s := takeStimulus s) hp ⟨h.params, h.phase, h.cursor⟩ (hu htick) out
  · have hnoTick : tickIsNext s = false := by simp [tickIsNext, hdisarmed]
    rw [hnoTick]
    exact ⟨h.params, h.phase, h.cursor⟩
  · exact absurd hn hreset

/-- Any run without RESET and without underrun at a TICK takes the back sweep on by the TICKs in it. -/
theorem BackSweepAt.run {p : Params} (hp : p.wellFormed = true) {n k : Nat} {s t : State} (h : BackSweepAt p k s)
    (hreset : .reset ∉ s.agenda) (hrun : Sys2Proof.core.run n s = .next t)
    (hu : ∀ (j : Nat) (u : State), j < n → Sys2Proof.core.run j s = .next u → tickIsNext u = true →
      underrunAfterTick u = false) : BackSweepAt p (k + countSteps tickIsNext n s) t := by
  induction n generalizing k s with
  | zero =>
    cases hrun
    exact h
  | succ n ih =>
    obtain ⟨u, hstep, hrest⟩ := run_succ_cases n s t hrun
    have hnext := h.step hp (nextStimulus_ne_reset hreset) (hu 0 s (Nat.succ_pos n) rfl) hstep
    have hgo := ih hnext (step_reset_notMem hstep hreset) hrest fun j v hj hv =>
      hu (j + 1) v (Nat.succ_lt_succ hj) ((run_succ_next j s u hstep).trans hv)
    rw [Nat.add_assoc] at hgo
    simpa only [countSteps, hstep] using hgo

/-- Settles O52: the sweep of `BackSweepAt.run`, from the reset state. -/
theorem backCursorTrailsInEveryRunFromReset : Obligations.BackCursorTrailsInEveryRunFromReset := by
  intro p agenda n t hp hreset s ticks hrun _ hu advances
  have hstart : BackSweepAt p 0 s := BackSweepAt.of_reset (s := s) hp rfl rfl
  have hsweep : BackSweepAt p ticks t := by simpa only [Nat.zero_add] using hstart.run hp hreset hrun hu
  have hadvances : advances = (backStart p + ticks) / p.spp := backPixels_eq_length hp ticks
  refine ⟨hadvances ▸ hsweep.cursor, hsweep.phase_eq_emod hp, fun hL => ?_, hsweep.before_offset hp⟩
  obtain ⟨hzero, hpixelStart⟩ := hsweep.at_offset hp hL
  refine ⟨?_, hzero, hzero, ?_⟩
  · rw [hadvances, hL, backPixels_at_offset hp]
  · rw [backContribution_at_start hpixelStart (hsweep.readBack_lt hp), hzero, hsweep.params]

end Sys2Proof.Machine


namespace Sys2Proof.Machine

/-! ### Every step has a next state -/

/-- Settles O44: a word that waits for the PUSH in flight gives that PUSH's micro-step, and every other step takes a
move, which stops nowhere while the cursors stand on slots. -/
theorem noStepOfAnInstanceStops : Obligations.NoStepOfAnInstanceStops := by
  intro s h
  obtain ⟨-, hcursors, -⟩ := h
  by_cases hidle : ∀ w, nextStimulus s = .word w → s.pushStage = .idle
  · obtain ⟨t, hstep, -⟩ := step_takes_move hcursors hidle
    exact ⟨t, hstep⟩
  · push Not at hidle
    obtain ⟨w, hn, hp⟩ := hidle
    exact ⟨_, step_word_inFlight hn hp⟩

/-! ### The slots that the producer writes -/

/-- With fewer than CAP − `d` unread columns the write cursor does not stand on the `d`-th slot behind the front
one (R48). -/
theorem writeEnd_ne_behind_front {s : State} {d : Nat} (hw : s.writeEnd < s.params.cap)
    (hf : s.readFront < s.params.cap) (hd : 0 < d) (hroom : unread s + d < s.params.cap) :
    s.writeEnd ≠ (s.readFront + s.params.cap - d) % s.params.cap := by
  have hbehind : (s.readFront + s.params.cap - d) % s.params.cap =
      if d ≤ s.readFront then s.readFront - d else s.readFront + s.params.cap - d := by
    split_ifs with hle
    · rw [Nat.sub_add_comm hle, Nat.add_mod_right, Nat.mod_eq_of_lt (by omega)]
    · exact Nat.mod_eq_of_lt (by omega)
  rw [unread_eq hw hf] at hroom
  rw [hbehind]
  split_ifs at hroom ⊢ <;> omega

/-- The producer port writes a slot only for a PUSH that is not turned away, and then the one at the write cursor
(R101, R103). -/
theorem PortMove.slots_cases {m : Stimulus} {s t : State} (h : PortMove m s t) :
    t.slots = s.slots ∨
      (bufferFull s = false ∧ ∃ c, t.slots = Memory.write s.params s.writeEnd c s.slots) := by
  cases h
  case written c _ _ _ _ hf _ _ => exact .inr ⟨hf, c, rfl⟩
  case pushed c _ _ _ _ hf _ _ => exact .inr ⟨hf, c, rfl⟩
  all_goals exact .inl rfl

/-- A slot reads the same in two states with the same parameters and the same slots. -/
theorem State.slot_congr {s t : State} (hp : t.params = s.params) (hm : t.slots = s.slots) (i : Nat) :
    t.slot i = s.slot i := by
  rw [State.slot, State.slot, hp, hm]

/-- The producer port leaves the two slots behind the front cursor alone (R70). -/
theorem PortMove.slot_behind_front {m : Stimulus} {s t : State} (hmove : PortMove m s t) (h : s.Inv) {d : Nat}
    (hd : d = 1 ∨ d = 2) :
    t.slot ((s.readFront + s.params.cap - d) % s.params.cap) =
      s.slot ((s.readFront + s.params.cap - d) % s.params.cap) := by
  obtain hkept | ⟨hfull, c, hwrite⟩ := hmove.slots_cases
  · exact State.slot_congr hmove.params_eq hkept _
  · have hroom := unread_add_three_le h hfull
    obtain ⟨-, ⟨hw, hf, -⟩, -, -, -, -, -, -, -, hsorted, -⟩ := h
    have hne := writeEnd_ne_behind_front hw hf (d := d) (by omega) (by omega)
    rw [State.slot, hmove.params_eq, hwrite, Memory.read_write _ _ _ _ _ hsorted, if_neg hne.symm, State.slot]

/-- Settles O16: the producer port spares the two slots, and no other move but RESET writes a slot. -/
theorem pushSparesTheTwoSlotsBehindFront : Obligations.PushSparesTheTwoSlotsBehindFront := by
  intro s t d h hreset hstep hd
  obtain ⟨-, moves, -, hmove⟩ | ⟨-, -, out, -, rfl⟩ | ⟨-, -, rfl⟩ | ⟨hn, -⟩ := step_next_cases hstep
  · exact PortMove.slot_behind_front (s := { s with agenda := moves }) hmove h hd
  · obtain ⟨-, hslots, -, -, -, -, -, -, -, hparams⟩ := tickAdvance_frame out (takeStimulus s)
    exact State.slot_congr hparams hslots _
  · rfl
  · exact absurd hn hreset

/-! ### The column that PUSH_A has written -/

/-- An open front gate passes the front bits of the slot under the front cursor (R123, R124). -/
theorem frontContribution_of_gate {s : State} (hgate : frontGate s = true) (hf : s.readFront < s.params.cap) :
    frontContribution s = .ok (s.slot s.readFront &&& s.params.frontMask) := by
  rw [frontContribution, if_pos hgate, memRead_ok _ _ hf]
  rfl

/-- An empty buffer is not full, since it has room for a column (R9, R108). -/
theorem bufferFull_of_empty {s : State} (hcap : 3 ≤ s.params.cap) (hempty : s.readFront = s.writeEnd) :
    bufferFull s = false := by
  rw [bufferFull, beq_eq_false_iff_ne]
  intro hfull
  have hw : s.writeEnd < s.params.cap := hfull.trans_lt (Nat.mod_lt _ (by omega))
  have hf : s.readFront < s.params.cap := hempty.trans_lt hw
  have hnone : unread s = 0 := by simp [unread, hempty]
  exact writeEnd_ne_behind_front hw hf (by omega) (by omega) hfull

/-- Settles O17: PUSH_A writes the slot under both cursors, which the front gate passes before PUSH_B moves the write
cursor on. -/
theorem writtenColumnShowsBeforeItIsPublished : Obligations.WrittenColumnShowsBeforeItIsPublished := by
  intro c s t hh hp hg hmem hempty hcap hexec hgate
  have hstart : pushStart c s = .next t := by
    obtain ⟨hh', -⟩ | ⟨-, -, hstart⟩ | ⟨-, hp', -⟩ | ⟨-, hp', -⟩ := execPush_cases c s t hexec
    · simp [hh] at hh'
    · exact hstart
    · simp [hp] at hp'
    · simp [hp] at hp'
  obtain ⟨hfull, -⟩ | ⟨-, -, hatomic, -⟩ | ⟨-, hw, -, rfl⟩ := pushStart_cases c s t hstart
  · simp [bufferFull_of_empty hcap hempty] at hfull
  · simp [hg] at hatomic
  · obtain ⟨hsorted, -⟩ := hmem
    refine ⟨rfl, (frontContribution_of_gate ?_ ?_).trans ?_⟩
    · exact decide_eq_true hgate
    · exact hempty.trans_lt hw
    · simp only [State.slot, hempty, Memory.read_write _ _ _ _ _ hsorted, if_true]

end Sys2Proof.Machine


namespace Sys2Proof

/-! ### The fields of a command word -/

/-- A word is its opcode joined to its argument (R80). -/
theorem opOf_append_argOf (w : CommandWord) : opOf w ++ argOf w = w := by
  rw [opOf, argOf, BitVec.extractLsb'_append_extractLsb'_eq_extractLsb' (by decide), BitVec.extractLsb'_eq_self]

/-- The argument field of an opcode joined to an argument. -/
theorem argOf_append (op : BitVec 8) (arg : Arg) : argOf (op ++ arg) = arg := by
  rw [argOf, BitVec.extractLsb'_append_eq_right]

/-- The opcode field as a whole number (R80). -/
theorem opOf_toNat (w : CommandWord) : (opOf w).toNat = w.toNat / 2 ^ 32 := by
  have hw : w.toNat < 2 ^ 40 := w.isLt
  rw [opOf, BitVec.extractLsb'_toNat, Nat.shiftRight_eq_div_pow]
  omega

/-- The argument field as a whole number (R80). -/
theorem argOf_toNat (w : CommandWord) : (argOf w).toNat = w.toNat % 2 ^ 32 := by
  rw [argOf, BitVec.extractLsb'_toNat, Nat.shiftRight_zero]

/-- The opcode test on the word as a whole number. -/
theorem opOf_eq_iff (w : CommandWord) (op : BitVec 8) : opOf w = op ↔ w.toNat / 2 ^ 32 = op.toNat := by
  rw [← opOf_toNat, BitVec.toNat_inj]

/-- The argument, read back from its whole number. -/
theorem argOf_eq_ofNat (w : CommandWord) : argOf w = BitVec.ofNat 32 (w.toNat % 2 ^ 32) := by
  rw [← argOf_toNat, BitVec.ofNat_toNat, BitVec.setWidth_eq]

/-- The column is the argument modulo 2^8 (R82). -/
theorem columnOf_eq_ofNat (arg : Arg) : columnOf arg = BitVec.ofNat 8 arg.toNat := rfl

/-- The reserved bits of layout B are 0 where the argument is below 2^8 (R81). -/
theorem byteReserved_eq_zero_iff (arg : Arg) : byteReserved arg = 0 ↔ arg.toNat / 2 ^ 8 = 0 := by
  have harg : arg.toNat < 2 ^ 32 := arg.isLt
  rw [← BitVec.toNat_inj, byteReserved, BitVec.extractLsb'_toNat, Nat.shiftRight_eq_div_pow]
  simp only [BitVec.ofNat_eq_ofNat, BitVec.toNat_ofNat]
  omega

/-- The reserved bits of layout D are 0 where the argument is below 2 (R81). -/
theorem directionReserved_eq_zero_iff (arg : Arg) : directionReserved arg = 0 ↔ arg.toNat / 2 = 0 := by
  have harg : arg.toNat < 2 ^ 32 := arg.isLt
  rw [← BitVec.toNat_inj, directionReserved, BitVec.extractLsb'_toNat, Nat.shiftRight_eq_div_pow]
  simp only [BitVec.ofNat_eq_ofNat, BitVec.toNat_ofNat]
  omega

/-- The direction bit of an argument whose reserved bits are 0. -/
theorem dnegOf_eq_decide {arg : Arg} (h : arg.toNat / 2 = 0) : dnegOf arg = decide (arg.toNat = 1) := by
  rw [dnegOf, BitVec.getLsbD, Nat.testBit_zero, decide_eq_decide]
  omega

/-! ### Operands and reserved bits: what an argument without reserved bits is -/

/-- An argument is a column's, with its reserved bits 0, exactly where decoding accepts it and finds that column. -/
theorem column_argument_iff (c : Column) (arg : Arg) :
    c.setWidth 32 = arg ↔ byteReserved arg = 0 ∧ columnOf arg = c := by
  have hc : c.toNat < 2 ^ 8 := c.isLt
  have harg : arg.toNat < 2 ^ 32 := arg.isLt
  rw [byteReserved_eq_zero_iff, columnOf_eq_ofNat, ← BitVec.toNat_inj, ← BitVec.toNat_inj, BitVec.toNat_setWidth,
    BitVec.toNat_ofNat]
  omega

/-- An argument is a direction's, with its reserved bits 0, exactly where decoding accepts it and finds that
direction. -/
theorem direction_argument_iff (d : Bool) (arg : Arg) :
    (BitVec.ofBool d).setWidth 32 = arg ↔ directionReserved arg = 0 ∧ dnegOf arg = d := by
  rw [directionReserved_eq_zero_iff, and_congr_right fun h => by rw [dnegOf_eq_decide h], ← BitVec.toNat_inj]
  cases d <;> simp <;> omega

/-! ### Decoding and encoding -/

/-- A command's word is the one whose two fields are the command's opcode and argument (R80, R81). -/
theorem encode_eq_some_iff (i : Instr) (w : CommandWord) :
    encode i = some w ↔ opcode? i = some (opOf w) ∧ argument i = argOf w := by
  rw [encode, Option.map_eq_some_iff]
  constructor
  · rintro ⟨op, hop, rfl⟩
    exact ⟨by rw [hop, Laws.EncodedOpcode.opOf_append], (argOf_append _ _).symm⟩
  · rintro ⟨hop, harg⟩
    exact ⟨opOf w, hop, by rw [harg, opOf_append_argOf]⟩

/-- A word spells a command exactly where its two fields are the command's opcode and argument (R81 to R86). -/
theorem decode_eq_command_iff (w : CommandWord) (i : Instr) :
    decode w = .command i ↔ opcode? i = some (opOf w) ∧ argument i = argOf w := by
  constructor
  · intro h
    unfold decode at h
    split_ifs at h with hop hres hop hres hop hop hop harg <;> cases h
    · exact ⟨congrArg some hop.symm, (column_argument_iff _ _).mpr ⟨hres, rfl⟩⟩
    · exact ⟨congrArg some hop.symm, (direction_argument_iff _ _).mpr ⟨hres, rfl⟩⟩
    · exact ⟨congrArg some hop.symm, rfl⟩
    · exact ⟨congrArg some hop.symm, rfl⟩
    · exact ⟨congrArg some hop.symm, harg.symm⟩
  · rintro ⟨hop, harg⟩
    unfold decode
    cases i with
    | push c =>
      obtain ⟨hres, hc⟩ := (column_argument_iff c _).mp harg
      simp [← Option.some.inj hop, hres, hc]
    | setdir d =>
      obtain ⟨hres, hd⟩ := (direction_argument_iff d _).mp harg
      simp [← Option.some.inj hop, hres, hd]
    | sethl n => simp [← Option.some.inj hop, ← harg, argument]
    | setspeed rpm => simp [← Option.some.inj hop, ← harg, argument]
    | shutdown => simp [← Option.some.inj hop, ← harg, argument]
    | tick => cases hop
    | reset => cases hop

/-- Settles O2: the word has the command's fields, and decoding reads those. -/
theorem decodeInvertsEncode : Obligations.DecodeInvertsEncode := fun i w h =>
  (decode_eq_command_iff w i).mpr ((encode_eq_some_iff i w).mp h)

/-- Settles O3: a word that decodes to the command has the command's fields, so it is the word of these fields. -/
theorem encodeInvertsDecode : Obligations.EncodeInvertsDecode := fun w i h =>
  (encode_eq_some_iff i w).mpr ((decode_eq_command_iff w i).mp h)

/-- Exactly the commands have a word, and it holds their opcode (R83, R87). -/
theorem encodedOpcode (i : Instr) : Laws.EncodedOpcode.Statement i := by
  cases i with
  | push c => exact Laws.EncodedOpcode.push c
  | setdir dneg => exact Laws.EncodedOpcode.setdir dneg
  | sethl n => exact Laws.EncodedOpcode.sethl n
  | setspeed rpm => exact Laws.EncodedOpcode.setspeed rpm
  | shutdown => exact Laws.EncodedOpcode.shutdown
  | tick => exact Laws.EncodedOpcode.tick
  | reset => exact Laws.EncodedOpcode.reset

/-- Settles O4: decoding gives commands only, and exactly the commands have a word. -/
theorem eventsHaveNoCommandWord : Obligations.EventsHaveNoCommandWord := by
  refine ⟨fun w => ⟨fun h => ?_, fun h => ?_⟩, fun i => ?_⟩
  · cases decode_isCommand h
  · cases decode_isCommand h
  · obtain ⟨-, hword⟩ := encodedOpcode i
    rw [← hword, Option.isSome_eq_false_iff, Option.isNone_iff_eq_none]

/-- Settles O1: the command words are the encoder's, and each of the two bad words fails its test. -/
theorem writtenWordsDecodeToTheirCommands : Obligations.WrittenWordsDecodeToTheirCommands :=
  ⟨decodeInvertsEncode (.push 0xA5) _ rfl, decodeInvertsEncode (.setdir true) _ rfl,
    decodeInvertsEncode (.sethl 300) _ rfl, decodeInvertsEncode (.setspeed 0x3F800000) _ rfl,
    decodeInvertsEncode (.setspeed 0x40A00000) _ rfl, decodeInvertsEncode .shutdown _ rfl, by decide, by decide⟩

/-- Decoding in whole numbers (R84). -/
theorem decode_eq_of_toNat (w : CommandWord) :
    decode w =
      if w.toNat / 2 ^ 32 = 1 then
        if w.toNat % 2 ^ 32 / 2 ^ 8 ≠ 0 then .badArg else .command (.push (BitVec.ofNat 8 (w.toNat % 2 ^ 32)))
      else if w.toNat / 2 ^ 32 = 2 then
        if w.toNat % 2 ^ 32 / 2 ≠ 0 then .badArg else .command (.setdir (decide (w.toNat % 2 ^ 32 = 1)))
      else if w.toNat / 2 ^ 32 = 3 then .command (.sethl (BitVec.ofNat 32 (w.toNat % 2 ^ 32)))
      else if w.toNat / 2 ^ 32 = 4 then .command (.setspeed (BitVec.ofNat 32 (w.toNat % 2 ^ 32)))
      else if w.toNat / 2 ^ 32 = 5 then
        if w.toNat % 2 ^ 32 ≠ 0 then .badArg else .command .shutdown
      else .illegalOpcode := by
  have hzero : argOf w = 0 ↔ w.toNat % 2 ^ 32 = 0 := by
    rw [← argOf_toNat, ← BitVec.toNat_inj]; rfl
  have hdir : (if directionReserved (argOf w) = 0 then Decoded.command (.setdir (dnegOf (argOf w))) else .badArg) =
      if w.toNat % 2 ^ 32 / 2 = 0 then .command (.setdir (decide (w.toNat % 2 ^ 32 = 1))) else .badArg := by
    simp only [directionReserved_eq_zero_iff, ← argOf_toNat]
    split_ifs with h
    · rw [dnegOf_eq_decide h]
    · rfl
  simp only [decode, hdir, hzero, ne_eq, ite_not, opOf_eq_iff, byteReserved_eq_zero_iff, columnOf_eq_ofNat, argOf_toNat]
  rw [argOf_eq_ofNat]
  rfl

end Sys2Proof

namespace Sys2Proof.Machine

/-- Settles O5: an idle port takes the word, and decoding is the same case list. -/
theorem portHandlesEveryWord : Obligations.PortHandlesEveryWord := by
  intro s w hn hp
  dsimp only
  rw [step_word_idle hn hp, handleWord, decode_eq_of_toNat, takeStimulus_halted]
  split_ifs <;> rfl

/-! ### The PUSH in flight -/

section
variable {s : State}

/-- With no PUSH in flight no micro-step is enabled (R104, R105). -/
theorem pushContinue_of_idle (hp : s.pushStage = .idle) : pushContinue s = s := by
  simp only [pushContinue, hp]

/-- After PUSH_A comes PUSH_B (R104). -/
theorem pushContinue_of_written (hp : s.pushStage = .written) : pushContinue s = pushB s := by
  simp only [pushContinue, hp]

/-- After PUSH_B comes PUSH_C (R105). -/
theorem pushContinue_of_published (hp : s.pushStage = .published) : pushContinue s = pushC s := by
  simp only [pushContinue, hp]

/-- No micro-step takes a move from the agenda. -/
theorem pushContinue_agenda (s : State) : (pushContinue s).agenda = s.agenda := by
  cases hp : s.pushStage with
  | idle => rw [pushContinue_of_idle hp]
  | written => rw [pushContinue_of_written hp, pushB_agenda]
  | published => rw [pushContinue_of_published hp, pushC_agenda]

/-- PUSH in flight is its next micro-step (R104, R105). -/
theorem exec_push_inFlight (c : Column) (hh : s.halted = false) (hp : s.pushStage ≠ .idle) :
    exec (.push c) s = .next (pushContinue s) := by
  change execPush c s = _
  rw [execPush, if_neg (by simp [hh])]
  cases hs : s.pushStage with
  | idle => exact absurd hs hp
  | written => rfl
  | published => rfl

end

/-- Settles O11: a PUSH in flight, a producer turn and a waiting word all run `pushContinue`. -/
theorem pushMicroStepsPublishThenAnswer : Obligations.PushMicroStepsPublishThenAnswer := by
  refine ⟨fun c s hh hp => ?_, fun c s hh hp => ?_, fun c s hh hp hn => ?_, fun c w s hh hp hn => ?_,
    fun s hp hn => ?_⟩
  · rw [exec_push_inFlight c hh (by simp [hp]), pushContinue_of_written hp]
    rfl
  · rw [exec_push_inFlight c hh (by simp [hp]), pushContinue_of_published hp]
    rfl
  · rw [step_producer hn]
    exact (exec_push_inFlight (s := takeStimulus s) c hh hp).symm
  · rw [step_word_inFlight hn hp, exec_push_inFlight c hh hp]
  · rw [step_producer hn, pushContinue_of_idle (s := takeStimulus s) hp]
    rfl

/-! ### Words and their responses -/

/-- The responses of two traces, one after the other. -/
@[simp] theorem responsesIn_append (earlier later : List Event) :
    responsesIn (earlier ++ later) = responsesIn earlier + responsesIn later := by
  rw [responsesIn, List.countP_append]; rfl

@[simp] theorem responsesIn_resp (code : BitVec 8) : responsesIn [.resp code] = 1 := rfl
@[simp] theorem responsesIn_coil (pattern : CoilPattern) : responsesIn [.coil pattern] = 0 := rfl
@[simp] theorem responsesIn_frameEvents (out : Column) : responsesIn (frameEvents out) = 0 := rfl

/-- Taking a move leaves the PUSH in flight as it is. -/
theorem unansweredPush_takeStimulus (s : State) : unansweredPush (takeStimulus s) = unansweredPush s := rfl

/-- A TICK leaves the PUSH in flight as it is. -/
theorem unansweredPush_tickAdvance (out : Column) (s : State) :
    unansweredPush (tickAdvance out s) = unansweredPush s := by
  rw [tickAdvance_eq]
  rfl

/-- A TICK gives no response. -/
theorem responsesIn_tickAdvance (out : Column) (s : State) :
    responsesIn (tickAdvance out s).trace = responsesIn s.trace := by
  rw [tickAdvance_eq]
  cases hu : underrunAfterTick s <;> simp

/-- A word that comes next is one of the words on the agenda. -/
theorem wordsIn_of_next_word {s : State} {w : CommandWord} (hn : nextStimulus s = .word w) :
    wordsIn s.agenda = wordsIn s.agenda.tail + 1 := by
  cases ha : s.agenda with
  | nil => simp [nextStimulus, ha] at hn
  | cons m ms =>
    cases (nextStimulus_cons ha).symm.trans hn
    simp [wordsIn]

/-- A move that is no word takes no word from the agenda. -/
theorem wordsIn_tail_of_next_ne_word {s : State} (hn : ∀ w, nextStimulus s ≠ .word w) :
    wordsIn s.agenda.tail = wordsIn s.agenda := by
  cases ha : s.agenda with
  | nil => rfl
  | cons m ms =>
    cases m with
    | word w => exact absurd (nextStimulus_cons ha) (hn w)
    | producer | timer | reset => simp [wordsIn]

/-- A micro-step answers the word of the PUSH in flight or leaves it unanswered (R90, R105). -/
theorem responses_pushContinue (s : State) :
    responsesIn (pushContinue s).trace + unansweredPush (pushContinue s) =
      responsesIn s.trace + unansweredPush s := by
  cases hp : s.pushStage with
  | idle => rw [pushContinue_of_idle hp]
  | written => simp [pushContinue_of_written hp, unansweredPush, hp]
  | published => simp [pushContinue_of_published hp, unansweredPush, hp]

/-- A word that an idle port takes is answered, or it is a PUSH now in flight (R88, R90). -/
theorem PortMove.responses_of_word {m : Stimulus} {s t : State} {w : CommandWord} (h : PortMove m s t)
    (hm : m = .word w) (hp : s.pushStage = .idle) :
    responsesIn t.trace + unansweredPush t = responsesIn s.trace + 1 := by
  cases h
  case nothingInFlight hm' _ => cases hm.symm.trans hm'
  case published hp' => cases hp.symm.trans hp'
  case cleared hp' => cases hp.symm.trans hp'
  case written => simp [unansweredPush]
  all_goals simp [unansweredPush, hp]

/-- Settles O48: a word leaves the agenda when it is answered or its PUSH goes in flight, and nothing else answers. -/
theorem everyWordGetsOneResponse : Obligations.EveryWordGetsOneResponse := by
  intro s t hstep hreset
  cases hn : nextStimulus s with
  | word w =>
    by_cases hp : s.pushStage = .idle
    · have hmove : PortMove (.word w) (takeStimulus s) t :=
        handleWord_portMove rfl hp ((step_word_idle hn hp).symm.trans hstep)
      have hanswer := hmove.responses_of_word rfl hp
      have hwords := wordsIn_of_next_word hn
      have hidle : unansweredPush s = 0 := if_pos hp
      rw [takeStimulus_trace] at hanswer
      rw [hmove.agenda_eq, takeStimulus_agenda]
      omega
    · cases (step_word_inFlight hn hp).symm.trans hstep
      have hanswer := responses_pushContinue s
      rw [pushContinue_agenda]
      omega
  | producer =>
    cases (step_producer hn).symm.trans hstep
    have hanswer := responses_pushContinue (takeStimulus s)
    rw [takeStimulus_trace, unansweredPush_takeStimulus] at hanswer
    rw [pushContinue_agenda, takeStimulus_agenda, wordsIn_tail_of_next_ne_word (by simp [hn])]
    omega
  | timer =>
    have hwords : wordsIn s.agenda.tail = wordsIn s.agenda := wordsIn_tail_of_next_ne_word (by simp [hn])
    obtain ⟨-, out, -, rfl⟩ | ⟨-, rfl⟩ := step_timer_cases hn hstep
    · rw [responsesIn_tickAdvance, tickAdvance_agenda, unansweredPush_tickAdvance, takeStimulus_trace,
        takeStimulus_agenda, hwords, unansweredPush_takeStimulus]
    · rw [takeStimulus_trace, takeStimulus_agenda, hwords, unansweredPush_takeStimulus]
  | reset => exact absurd hn hreset

end Sys2Proof.Machine

namespace Sys2Proof.Machine

/-! ### The transitions of a PUSH -/

/-- The state after PUSH_A, or after the write of an atomic PUSH: `SLOT[writeEnd]` holds the column (R101, R103). -/
def writeColumn (c : Column) (s : State) : State :=
  { s with slots := Memory.write s.params s.writeEnd c s.slots }

/-- The state after the whole of a PUSH that is not turned away (R101, R102); `wholePush_accepted` ties it to the
model. -/
def afterPush (c : Column) (s : State) : State := acceptPush (publishColumn (writeColumn c s))

section
variable (c : Column) (s : State)

@[simp] theorem afterPush_writeEnd : (afterPush c s).writeEnd = nextIndex s.params s.writeEnd := rfl
@[simp] theorem afterPush_readFront : (afterPush c s).readFront = s.readFront := rfl
@[simp] theorem afterPush_underrun : (afterPush c s).underrun = false := rfl
@[simp] theorem afterPush_halted : (afterPush c s).halted = s.halted := rfl
@[simp] theorem afterPush_pushStage : (afterPush c s).pushStage = s.pushStage := rfl
@[simp] theorem afterPush_slots : (afterPush c s).slots = Memory.write s.params s.writeEnd c s.slots := rfl
@[simp] theorem afterPush_params : (afterPush c s).params = s.params := rfl
@[simp] theorem afterPush_trace : (afterPush c s).trace = s.trace ++ [.resp 0x00] := rfl

/-- The slot under the write cursor holds the column pushed, every other slot what it held (R101). -/
theorem afterPush_slot (hmem : Memory.wf s.params s.slots) (a : Nat) :
    (afterPush c s).slot a = if a = s.writeEnd then c else s.slot a :=
  Memory.read_write s.params s.slots s.writeEnd a c hmem.left

/-- Only the cursors and CAP make the number of unread columns, so a PUSH adds what its advance adds (R48). -/
theorem unread_afterPush : unread (afterPush c s) = unread (publishColumn s) := rfl

/-- A buffer is not full when its write cursor is not the second slot behind the front cursor (R100). -/
theorem bufferFull_eq_false_iff :
    bufferFull s = false ↔ s.writeEnd ≠ (s.readFront + s.params.cap - 2) % s.params.cap := beq_eq_false_iff_ne

end

section
variable {s : State} (c : Column) (hh : s.halted = false) (hp : s.pushStage = .idle)
include hh hp

/-- An idle port of a running block starts the PUSH (R84, R100, R103). -/
theorem exec_push_of_idle : exec (.push c) s = pushStart c s := by
  change execPush c s = _
  rw [execPush, if_neg (by simp [hh]), hp]

/-- A full buffer turns the PUSH away, in either granularity (R100, R103). -/
theorem exec_push_full (hf : bufferFull s = true) : exec (.push c) s = .next (respond .full s) := by
  rw [exec_push_of_idle c hh hp, pushStart]
  cases s.params.pushGranularity with
  | split => exact if_pos hf
  | atomic => exact if_pos hf

section
variable (hf : bufferFull s = false) (hw : s.writeEnd < s.params.cap)
include hf hw

/-- An atomic PUSH with room writes, publishes and answers in one transition (R101, R102, R106). -/
theorem exec_push_atomic (hg : s.params.pushGranularity = .atomic) : exec (.push c) s = .next (afterPush c s) := by
  simp only [exec_push_of_idle c hh hp, pushStart, hg, pushAtomic, hf, Bool.false_eq_true, if_false,
    memWrite_ok _ _ _ hw]
  rfl

/-- A split PUSH with room starts with the write alone (R103). -/
theorem exec_push_split (hg : s.params.pushGranularity = .split) :
    exec (.push c) s = .next { writeColumn c s with pushStage := .written } := by
  simp only [exec_push_of_idle c hh hp, pushStart, hg, pushA, hf, Bool.false_eq_true, if_false, memWrite_ok _ _ _ hw]
  rfl

end

end

/-- Settles O8: the full test stands before the write in both granularities. -/
theorem fullBufferTurnsPushAway : Obligations.FullBufferTurnsPushAway :=
  fun c _ hh hp hfull => exec_push_full c hh hp (beq_iff_eq.mpr hfull)

/-- Settles O9: the state after an atomic PUSH is `afterPush`. -/
theorem atomicPushWritesAndPublishes : Obligations.AtomicPushWritesAndPublishes := by
  intro c s hh hp hg hmem hw hroom
  exact ⟨Memory.write s.params s.writeEnd c s.slots,
    exec_push_atomic c hh hp ((bufferFull_eq_false_iff s).mpr hroom) hw hg, afterPush_slot c s hmem⟩

/-- Settles O10: PUSH_A writes the slot that the atomic PUSH writes. -/
theorem splitPushWritesFirst : Obligations.SplitPushWritesFirst := by
  intro c s hh hp hg hmem hw hroom
  exact ⟨Memory.write s.params s.writeEnd c s.slots,
    exec_push_split c hh hp ((bufferFull_eq_false_iff s).mpr hroom) hw hg, afterPush_slot c s hmem⟩

/-! ### The whole of a PUSH -/

section
variable {c : Column} {n : Nat} {s t : State} (h : exec (.push c) s = .next t)
include h

/-- A transition that leaves no PUSH in flight ends the PUSH. -/
theorem pushWithin_of_ended (ht : t.pushStage = .idle) : pushWithin c (n + 1) s = some t := by
  simp only [pushWithin, h, ht, if_true]

/-- A transition that leaves the PUSH in flight is followed by its next one. -/
theorem pushWithin_of_inFlight (ht : t.pushStage ≠ .idle) : pushWithin c (n + 1) s = pushWithin c n t := by
  simp only [pushWithin, h, ht, if_false]

end

/-- PUSH_B and PUSH_C after PUSH_A end in the state of the atomic PUSH (R104 to R106). -/
theorem pushC_pushB_written (c : Column) {s : State} (hp : s.pushStage = .idle) :
    pushC (pushB { writeColumn c s with pushStage := .written }) = afterPush c s := by
  change { afterPush c s with pushStage := .idle } = _
  rw [← hp]
  rfl

section
variable {s : State} (c : Column) (hh : s.halted = false) (hp : s.pushStage = .idle)
include hh hp

/-- The whole of a PUSH to a full buffer is its refusal (R100, R103). -/
theorem wholePush_full (hf : bufferFull s = true) : wholePush c s = some (respond .full s) :=
  pushWithin_of_ended (exec_push_full c hh hp hf) hp

/-- The whole of a PUSH to a buffer with room ends in the same state in both granularities (R101 to R106). -/
theorem wholePush_accepted (hf : bufferFull s = false) (hw : s.writeEnd < s.params.cap) :
    wholePush c s = some (afterPush c s) := by
  cases hg : s.params.pushGranularity with
  | atomic => exact pushWithin_of_ended (exec_push_atomic c hh hp hf hw hg) hp
  | split =>
    rw [← pushC_pushB_written c hp]
    calc wholePush c s
        = pushWithin c 2 { writeColumn c s with pushStage := .written } :=
          pushWithin_of_inFlight (exec_push_split c hh hp hf hw hg) (by simp)
      _ = pushWithin c 1 (pushB { writeColumn c s with pushStage := .written }) :=
          pushWithin_of_inFlight (exec_push_inFlight c hh (by simp)) (by simp [pushB])
      _ = some (pushC (pushB { writeColumn c s with pushStage := .written })) :=
          pushWithin_of_ended (exec_push_inFlight c hh (by simp [pushB])) rfl

end

/-! ### The split PUSH and the atomic PUSH -/

/-- The same block with the other way, or the same way, of taking a PUSH. -/
def State.withGranularity (g : Granularity) (s : State) : State :=
  { s with params := { s.params with pushGranularity := g } }

/-- Of the parameters a write reads INIT_SLOTS alone (R61, R63). -/
theorem Memory.write_congr {p q : Params} (h : p.initSlots = q.initSlots) (i : Nat) (v : Column)
    (m : List Host.Cell) : Memory.write p i v m = Memory.write q i v m := by
  have hunwritten : unwrittenSlot p i = unwrittenSlot q i := by rw [unwrittenSlot, h, unwrittenSlot]
  induction m with
  | nil => simp only [Memory.write, hunwritten]
  | cons d m ih => simp only [Memory.write, hunwritten, ih]

/-- The state that a PUSH ends in does not depend on how it is taken. -/
theorem afterPush_withGranularity (c : Column) (g : Granularity) (s : State) :
    afterPush c (s.withGranularity g) = (afterPush c s).withGranularity g := by
  have hslots : (writeColumn c (s.withGranularity g)).slots = (writeColumn c s).slots :=
    Memory.write_congr (p := (s.withGranularity g).params) (q := s.params) rfl s.writeEnd c s.slots
  change { (afterPush c s).withGranularity g with slots := (writeColumn c (s.withGranularity g)).slots } = _
  rw [hslots]
  rfl

/-- Settles O12: the whole PUSH ends in `afterPush` or is refused, and neither depends on the granularity. -/
theorem splitPushRefinesAtomicPush : Obligations.SplitPushRefinesAtomicPush := by
  intro c s hh hp hw
  cases hf : bufferFull s with
  | true =>
    exact ⟨respond .full s, wholePush_full (s := s.withGranularity .atomic) c hh hp hf,
      wholePush_full (s := s.withGranularity .split) c hh hp hf,
      exec_push_full (s := s.withGranularity .atomic) c hh hp hf⟩
  | false =>
    have hatomic := afterPush_withGranularity c .atomic s
    have hsplit := afterPush_withGranularity c .split s
    exact ⟨afterPush c s,
      (wholePush_accepted (s := s.withGranularity .atomic) c hh hp hf hw).trans (congrArg some hatomic),
      (wholePush_accepted (s := s.withGranularity .split) c hh hp hf hw).trans (congrArg some hsplit),
      (exec_push_atomic (s := s.withGranularity .atomic) c hh hp hf hw rfl).trans
        (congrArg Host.Outcome.next hatomic)⟩

/-! ### Room in the buffer -/

/-- A running block with no PUSH in flight, its cursors in range, whose buffer has room for `n` columns more. -/
structure HasRoom (n : Nat) (s : State) : Prop where
  running : s.halted = false
  idle : s.pushStage = .idle
  writeEnd_lt : s.writeEnd < s.params.cap
  readFront_lt : s.readFront < s.params.cap
  room : unread s + n + 2 ≤ s.params.cap

section
variable {n : Nat} {s : State} (h : HasRoom (n + 1) s)
include h

/-- A buffer with room for a column is not full (R100). -/
theorem HasRoom.bufferFull_eq_false : bufferFull s = false := by
  obtain ⟨-, -, hw, hf, hroom⟩ := h
  exact (bufferFull_eq_false_iff s).mpr (writeEnd_ne_behind_front hw hf (by omega) (by omega))

/-- A buffer with room for a column takes the whole PUSH. -/
theorem HasRoom.wholePush_eq (c : Column) : wholePush c s = some (afterPush c s) :=
  wholePush_accepted c h.running h.idle h.bufferFull_eq_false h.writeEnd_lt

/-- A PUSH makes one column unread (R48, R101). -/
theorem HasRoom.unread_afterPush_eq (c : Column) : unread (afterPush c s) = unread s + 1 := by
  obtain ⟨-, -, hw, hf, hroom⟩ := h
  rw [unread_afterPush, unread_publishColumn hw hf (by omega)]

/-- A PUSH takes up the room of one column. -/
theorem HasRoom.after_push (c : Column) : HasRoom n (afterPush c s) where
  running := h.running
  idle := h.idle
  writeEnd_lt := nextIndex_lt h.writeEnd_lt
  readFront_lt := h.readFront_lt
  room := by
    have hroom := h.room
    rw [h.unread_afterPush_eq c, afterPush_params]
    omega

end

/-- With CAP − 2 unread columns the next PUSH is answered FULL (R100, R108). -/
theorem HasRoom.next_push_full {s : State} (h : HasRoom 0 s) (hfull : unread s + 2 = s.params.cap) (c : Column) :
    exec (.push c) s = .next { s with trace := s.trace ++ [.resp 0x01] } := by
  obtain ⟨hh, hp, hw, hf, -⟩ := h
  exact exec_push_full c hh hp ((bufferFull_iff_unread (by omega) hw hf).mpr hfull)

/-- Settles O15: in underrun the buffer is empty, so the PUSH is accepted. -/
theorem pushInUnderrunIsAccepted : Obligations.PushInUnderrunIsAccepted := by
  rintro c s ⟨hparams, ⟨hw, -⟩, -, -, -, hunderrun, -, -, -, hmem⟩ hh hp hu
  obtain ⟨hcap, -⟩ := (Params.wellFormed_iff s.params).mp hparams
  have hempty : s.readFront = s.writeEnd := (hunderrun hu).resolve_right (by simp [hp])
  exact ⟨afterPush c s, wholePush_accepted c hh hp (bufferFull_of_empty hcap hempty) hw, rfl, hp, rfl,
    (afterPush_slot c s hmem s.writeEnd).trans (if_pos rfl), rfl⟩

/-- Settles O14: the advance makes room for one column, and the PUSH of it takes that room up. -/
theorem oneAdvanceMakesRoomForOnePush : Obligations.OneAdvanceMakesRoomForOnePush := by
  intro c d s hparams hh hp hw hf hfull
  obtain ⟨hcap, -⟩ := (Params.wellFormed_iff s.params).mp hparams
  have hunread : unread s + 2 = s.params.cap := (bufferFull_iff_unread (by omega) hw hf).mp hfull
  have hne : s.readFront ≠ s.writeEnd := fun hempty => by simp [bufferFull_of_empty hcap hempty] at hfull
  have hadvance := unread_advanceFront hw hf hne
  have hroom : HasRoom 1 { s with readFront := nextIndex s.params s.readFront } :=
    ⟨hh, hp, hw, nextIndex_lt hf, by dsimp only; omega⟩
  refine ⟨_, hroom.wholePush_eq c, rfl, (hroom.after_push c).next_push_full ?_ d⟩
  rw [hroom.unread_afterPush_eq c, afterPush_params]
  dsimp only
  omega

/-! ### PUSHes in a row -/

/-- The state after a PUSH of each column in turn, none of them turned away. -/
def afterPushes (cs : List Column) (s : State) : State := cs.foldl (fun u c => afterPush c u) s

@[simp] theorem afterPushes_nil (s : State) : afterPushes [] s = s := rfl
@[simp] theorem afterPushes_cons (c : Column) (cs : List Column) (s : State) :
    afterPushes (c :: cs) s = afterPushes cs (afterPush c s) := rfl

@[simp] theorem afterPushes_params (cs : List Column) (s : State) : (afterPushes cs s).params = s.params := by
  induction cs generalizing s with
  | nil => rfl
  | cons c cs ih => rw [afterPushes_cons, ih, afterPush_params]

@[simp] theorem afterPushes_readFront (cs : List Column) (s : State) :
    (afterPushes cs s).readFront = s.readFront := by
  induction cs generalizing s with
  | nil => rfl
  | cons c cs ih => rw [afterPushes_cons, ih, afterPush_readFront]

/-- Each of the PUSHes is answered OK (R102). -/
@[simp] theorem afterPushes_trace (cs : List Column) (s : State) :
    (afterPushes cs s).trace = s.trace ++ List.replicate cs.length (.resp 0x00) := by
  induction cs generalizing s with
  | nil => simp
  | cons c cs ih => simp [ih, List.replicate_succ]

/-- The PUSHes are accepted one after the other as long as there is room. -/
theorem HasRoom.pushColumns_eq {n : Nat} {s : State} {cs : List Column} (h : HasRoom (cs.length + n) s) :
    pushColumns cs s = some (afterPushes cs s) ∧ HasRoom n (afterPushes cs s) ∧
      unread (afterPushes cs s) = unread s + cs.length := by
  induction cs generalizing s with
  | nil => exact ⟨rfl, by simpa using h, rfl⟩
  | cons c cs ih =>
    have hfirst : HasRoom (cs.length + n + 1) s := by
      rwa [List.length_cons, Nat.add_right_comm] at h
    obtain ⟨hpush, hroom, hunread⟩ := ih (hfirst.after_push c)
    refine ⟨?_, hroom, ?_⟩
    · rw [pushColumns, hfirst.wholePush_eq c]
      exact hpush
    · rw [afterPushes_cons, hunread, hfirst.unread_afterPush_eq c, List.length_cons]
      omega

/-- Two different distances below CAP lead from one cursor to two different slots. -/
theorem slot_index_ne {cap i j k : Nat} (hjk : j < k) (hk : k < cap) : (i + j) % cap ≠ (i + k) % cap := by
  intro heq
  have hmod : j ≡ k [MOD cap] := Nat.ModEq.add_left_cancel' i heq
  exact hjk.ne (hmod.eq_of_lt_of_lt (hjk.trans hk) hk)

/-- The slot `k` beyond the advanced write cursor is the slot `k + 1` beyond the write cursor. -/
theorem nextIndex_add_mod (p : Params) (i k : Nat) : (nextIndex p i + k) % p.cap = (i + (k + 1)) % p.cap := by
  rw [nextIndex, Nat.mod_add_mod, Nat.add_assoc, Nat.add_comm 1 k]

section
variable {s : State} {cs : List Column} (hw : s.writeEnd < s.params.cap) (hmem : Memory.wf s.params s.slots)
include hw hmem

/-- PUSHes in a row leave every slot beyond the last one they write as it was (R101). -/
theorem afterPushes_slot_beyond {k : Nat} (hlen : cs.length ≤ k) (hk : k < s.params.cap) :
    (afterPushes cs s).slot ((s.writeEnd + k) % s.params.cap) = s.slot ((s.writeEnd + k) % s.params.cap) := by
  induction cs generalizing s k with
  | nil => rfl
  | cons c cs ih =>
    obtain ⟨k, rfl⟩ : ∃ j, k = j + 1 := ⟨k - 1, by simp only [List.length_cons] at hlen; omega⟩
    have hne : (s.writeEnd + (k + 1)) % s.params.cap ≠ s.writeEnd := by
      have := slot_index_ne (i := s.writeEnd) k.succ_pos hk
      rwa [Nat.add_zero, Nat.mod_eq_of_lt hw, ne_comm] at this
    have hrest := ih (s := afterPush c s) (k := k) (nextIndex_lt hw) (Memory.write_wf _ _ _ _ hw hmem)
      (Nat.le_of_succ_le_succ hlen) (k.lt_succ_self.trans hk)
    rw [afterPush_writeEnd, afterPush_params, nextIndex_add_mod, afterPush_slot c s hmem, if_neg hne] at hrest
    exact hrest

/-- PUSHes in a row leave the columns in the slots from the write cursor on, in push order (R101). -/
theorem afterPushes_slot_pushed (hlen : cs.length ≤ s.params.cap) {k : Nat} (hk : k < cs.length) :
    (afterPushes cs s).slot ((s.writeEnd + k) % s.params.cap) = cs.getD k 0 := by
  induction cs generalizing s k with
  | nil => exact absurd hk (Nat.not_lt_zero k)
  | cons c cs ih =>
    have hmem' : Memory.wf (afterPush c s).params (afterPush c s).slots := Memory.write_wf _ _ _ _ hw hmem
    cases k with
    | zero =>
      -- Seen from the advanced cursor, the slot just written is the last of all.
      have hbeyond := afterPushes_slot_beyond (s := afterPush c s) (cs := cs) (nextIndex_lt hw) hmem'
        (k := s.params.cap - 1) (by simp only [List.length_cons] at hlen; omega)
        (by rw [afterPush_params]; omega)
      have hround : (s.writeEnd + (s.params.cap - 1 + 1)) % s.params.cap = s.writeEnd := by
        rw [Nat.sub_add_cancel (by omega), Nat.add_mod_right, Nat.mod_eq_of_lt hw]
      rw [afterPush_writeEnd, afterPush_params, nextIndex_add_mod, hround, afterPush_slot c s hmem, if_pos rfl]
        at hbeyond
      rw [Nat.add_zero, Nat.mod_eq_of_lt hw]
      exact hbeyond
    | succ k =>
      have hrest := ih (s := afterPush c s) (nextIndex_lt hw) hmem' (Nat.le_of_succ_le hlen)
        (Nat.lt_of_succ_lt_succ hk)
      rw [afterPush_writeEnd, afterPush_params, nextIndex_add_mod] at hrest
      exact hrest

end

/-- Settles O13: the PUSHes use up the room of the empty buffer, and the two slots behind the front cursor are those
CAP − 1 and CAP − 2 beyond the write cursor. -/
theorem bufferTakesCapMinusTwoColumns : Obligations.BufferTakesCapMinusTwoColumns := by
  intro s cs hparams hh hp hmem hw hempty hlen
  have hnone : unread s = 0 := by simp [unread, hempty]
  have hroom : HasRoom cs.length s := ⟨hh, hp, hw, hempty.trans_lt hw, by omega⟩
  obtain ⟨hpush, hend, hunread⟩ := hroom.pushColumns_eq (n := 0)
  refine ⟨afterPushes cs s, hpush, afterPushes_trace cs s, afterPushes_readFront cs s,
    fun k hk => afterPushes_slot_pushed hw hmem (by omega) hk, fun d hd => ?_,
    hend.next_push_full (by rw [hunread, afterPushes_params]; omega)⟩
  rw [hempty, Nat.add_sub_assoc (by omega)]
  exact afterPushes_slot_beyond hw hmem (by omega) (by omega)

end Sys2Proof.Machine

namespace Sys2Proof.Machine

/-! ### What a TICK leaves, field by field -/

section
variable (out : Column) (s : State)

@[simp] theorem tickAdvance_writeEnd : (tickAdvance out s).writeEnd = s.writeEnd := by rw [tickAdvance_eq]
@[simp] theorem tickAdvance_slots : (tickAdvance out s).slots = s.slots := by rw [tickAdvance_eq]
@[simp] theorem tickAdvance_params : (tickAdvance out s).params = s.params := by rw [tickAdvance_eq]
@[simp] theorem tickAdvance_timerArmed : (tickAdvance out s).timerArmed = s.timerArmed := by rw [tickAdvance_eq]
@[simp] theorem tickAdvance_highlightedSteps :
    (tickAdvance out s).highlightedSteps = s.highlightedSteps := by rw [tickAdvance_eq]

/-- The phase after a TICK, in underrun too (R160). -/
@[simp] theorem tickAdvance_phaseIndex : (tickAdvance out s).phaseIndex = nextPhase s := by rw [tickAdvance_eq]

/-- The back sweep phase after a TICK (R139). -/
@[simp] theorem tickAdvance_backStep :
    (tickAdvance out s).backStep = nextStep s.params s.backStep := by rw [tickAdvance_eq]

/-- The front cursor after a TICK: a front wrap moves it on, unless it finds the buffer empty (R141). -/
theorem tickAdvance_readFront :
    (tickAdvance out s).readFront =
      if nextStep s.params s.pixelStep = 0 ∧ s.readFront ≠ s.writeEnd then nextIndex s.params s.readFront
      else s.readFront := by
  rw [tickAdvance_eq]
  simp

/-- The back cursor after a TICK: a back wrap moves it on, unless `underrun` is set by then (R143). -/
theorem tickAdvance_readBack :
    (tickAdvance out s).readBack =
      if nextStep s.params s.backStep = 0 ∧ underrunAfterTick s = false then nextIndex s.params s.readBack
      else s.readBack := by
  rw [tickAdvance_eq]
  simp

/-- The coils after a TICK: the pattern of the new phase, unless `underrun` is set by then (R166). -/
theorem tickAdvance_coil :
    (tickAdvance out s).coil = if underrunAfterTick s then s.coil else phasePattern (tickPhase s) := by
  rw [tickAdvance_eq]
  rfl

/-- The events of a TICK: the frame, then the coil write, if there is one (R135, R167). -/
theorem tickAdvance_trace :
    (tickAdvance out s).trace =
      s.trace ++ frameEvents out ++ if underrunAfterTick s then [] else [.coil (phasePattern (tickPhase s))] := by
  rw [tickAdvance_eq]
  cases underrunAfterTick s
  · rfl
  · exact (List.append_nil _).symm

end

section
variable {s t : State}

/-- `underrun` after a TICK that starts out of it: set exactly by a front wrap on an empty buffer (R141). -/
theorem underrunAfterTick_of_clear (hu : s.underrun = false) :
    underrunAfterTick s = (nextStep s.params s.pixelStep == 0 && s.readFront == s.writeEnd) := by
  rw [underrunAfterTick, hu, Bool.false_or]

/-- A TICK at which the front does not wrap keeps `underrun` (R142). -/
theorem underrunAfterTick_of_no_wrap (hwrap : nextStep s.params s.pixelStep ≠ 0) :
    underrunAfterTick s = s.underrun := by
  rw [underrunAfterTick, beq_eq_false_iff_ne.mpr hwrap, Bool.false_and, Bool.or_false]

/-- A TICK that finds unread columns keeps `underrun` (R142). -/
theorem underrunAfterTick_of_unread (hne : s.readFront ≠ s.writeEnd) : underrunAfterTick s = s.underrun := by
  simp [underrunAfterTick, hne]

/-- A TICK that starts in underrun ends in it (R38). -/
theorem underrunAfterTick_of_set (hu : s.underrun = true) : underrunAfterTick s = true := by
  rw [underrunAfterTick, hu, Bool.true_or]

/-- A sweep phase wraps on the last tick of its pixel (R140). -/
theorem nextStep_eq_zero_iff {p : Params} (hp : p.wellFormed = true) (k : BitVec 8) :
    nextStep p k = 0 ↔ (k.toNat + 1) % p.spp = 0 := by
  rw [← BitVec.toNat_inj, nextStep_toNat hp]
  rfl

/-- The new phase as a whole number (R160). -/
theorem nextPhase_toNat (s : State) :
    ((nextPhase s).toNat : Int) = ((s.phaseIndex.toNat : Int) + directionValue s.dneg) % 8 := by
  rw [nextPhase, BitVec.toNat_ofInt]
  exact Int.toNat_of_nonneg (Int.emod_nonneg _ (by decide))

/-- The pattern of a phase is the entry of the table that the phase names (R161). -/
theorem phasePattern_eq_getD (s : State) :
    phasePattern s = s.params.phaseTable.toList.getD s.phaseIndex.toNat 0 := by
  have hlt : s.phaseIndex.toNat < s.params.phaseTable.toList.length := by
    rw [Vector.length_toList]
    exact s.phaseIndex.isLt
  rw [List.getD_eq_getElem _ _ hlt, Vector.getElem_toList]
  rfl

/-- The pattern that a TICK drives is one entry on in the direction of the motor (R160, R166). -/
theorem phasePattern_tickPhase (s : State) :
    phasePattern (tickPhase s) = tableAt s.params ((s.phaseIndex.toNat : Int) + directionValue s.dneg) := by
  rw [phasePattern_eq_getD, tickPhase_params, tickPhase_phaseIndex, tableAt, ← nextPhase_toNat, Int.toNat_natCast]

/-- Where the read cursors stand on slots a TICK of an armed timer takes place. -/
theorem exec_tick_of_cursors (harmed : s.timerArmed = true) (hf : s.readFront < s.params.cap)
    (hb : s.readBack < s.params.cap) : ∃ out, renderColumn s = .ok out ∧ exec .tick s = .next (tickAdvance out s) :=
  ⟨_, renderColumn_ok s hf hb, exec_tick_of_rendered harmed (renderColumn_ok s hf hb)⟩

/-- A TICK of an armed timer that takes place rendered a byte and went through its eight steps (R120). -/
theorem exec_tick_armed (harmed : s.timerArmed = true) (h : exec .tick s = .next t) :
    ∃ out, renderColumn s = .ok out ∧ t = tickAdvance out s := by
  obtain ⟨-, hrest⟩ | ⟨hdisarmed, -⟩ := execTick_cases s t h
  · exact hrest
  · simp [harmed] at hdisarmed

end

/-! ### The coil writes of a trace -/

@[simp] theorem coilsIn_append (earlier later : List Event) :
    coilsIn (earlier ++ later) = coilsIn earlier ++ coilsIn later := List.filterMap_append ..

@[simp] theorem coilsIn_nil : coilsIn [] = [] := rfl
@[simp] theorem coilsIn_resp (code : BitVec 8) : coilsIn [.resp code] = [] := rfl
@[simp] theorem coilsIn_coil (pattern : CoilPattern) : coilsIn [.coil pattern] = [pattern] := rfl
@[simp] theorem coilsIn_frameEvents (out : Column) : coilsIn (frameEvents out) = [] := rfl

/-- A TICK writes the coils once out of underrun and not at all in it (R166). -/
theorem coilsIn_tickAdvance (out : Column) (s : State) :
    coilsIn (tickAdvance out s).trace =
      coilsIn s.trace ++ if underrunAfterTick s then [] else [phasePattern (tickPhase s)] := by
  rw [tickAdvance_trace]
  cases underrunAfterTick s <;> simp

/-- What a TICK does that ends in underrun: no back advance and no coil write (R143, R166). -/
theorem tickAdvance_of_underrun (out : Column) {s : State} (hu : underrunAfterTick s = true) :
    (tickAdvance out s).readBack = s.readBack ∧ (tickAdvance out s).coil = s.coil ∧
      (tickAdvance out s).trace = s.trace ++ frameEvents out ∧
      coilsIn (tickAdvance out s).trace = coilsIn s.trace := by
  simp [tickAdvance_readBack, tickAdvance_coil, tickAdvance_trace, hu]

/-! ### One TICK -/

/-- Settles O18: the eight steps of `tickAdvance_eq` on the byte of `renderColumn_ok`. -/
theorem tickPerformsItsEightSteps : Obligations.TickPerformsItsEightSteps := by
  intro s harmed hf hb front back out phase ps bs ur pattern
  have hout : renderColumn s = .ok out := by
    rw [renderColumn_ok s hf hb]
    simp only [frontGate, backGate, decide_eq_true_eq]
    rfl
  have hphase : nextPhase s = phase := by
    apply BitVec.eq_of_toNat_eq
    have hnext := nextPhase_toNat s
    simp only [phase, directionValue] at hnext ⊢
    rw [BitVec.toNat_ofNat]
    omega
  have hpattern : phasePattern (tickPhase s) = pattern := by
    rw [phasePattern_eq_getD, tickPhase_params, tickPhase_phaseIndex, hphase]
  have hps : nextStep s.params s.pixelStep = ps := rfl
  have hbs : nextStep s.params s.backStep = bs := rfl
  have hur : underrunAfterTick s = ur := rfl
  have hfront := tickAdvance_readFront out s
  have hback := tickAdvance_readBack out s
  have hcoil := tickAdvance_coil out s
  have htrace := tickAdvance_trace out s
  rw [exec_tick_of_rendered harmed hout]
  rw [tickAdvance_eq] at hfront hback hcoil htrace ⊢
  dsimp only at hfront hback hcoil htrace
  rw [hfront, hback, hcoil, htrace, hphase, hpattern, hps, hbs, hur]
  cases ur <;> rfl

/-- The even bits belong to the mask of an even front column, the odd ones to that of an odd one (R10, R124). -/
theorem frontMask_getLsbD (p : Params) {i : Nat} (hi : i < 8) :
    p.frontMask.getLsbD i = decide (i % 2 = 0 ↔ p.frontParity = .even) := by
  cases hparity : p.frontParity <;> simp only [Params.frontMask, hparity] <;> interval_cases i <;> rfl

/-- The back mask has the bits that the front mask has not (R10, R127). -/
theorem backMask_getLsbD (p : Params) {i : Nat} (hi : i < 8) :
    p.backMask.getLsbD i = !decide (i % 2 = 0 ↔ p.frontParity = .even) := by
  rw [Params.backMask, BitVec.getLsbD_not, frontMask_getLsbD p hi, decide_eq_true hi, Bool.true_and]

section
variable {s t : State} {out : Column}

/-- A rendered byte joins two contributions (R128). -/
theorem renderColumn_cases (h : renderColumn s = .ok out) :
    ∃ front back, frontContribution s = .ok front ∧ backContribution s = .ok back ∧ out = front ||| back := by
  unfold renderColumn at h
  cases hfront : frontContribution s with
  | error f => simp [hfront] at h
  | ok front =>
    cases hback : backContribution s with
    | error f => simp [hfront, hback] at h
    | ok back =>
      simp only [hfront, hback, Except.ok.injEq] at h
      exact ⟨front, back, rfl, rfl, h.symm⟩

/-- A masked slot, where the slot exists (R62). -/
theorem memRead_map_eq_ok {i : Nat} {mask c : Column} (h : (memRead i s).map (· &&& mask) = .ok c) :
    c = s.slot i &&& mask := by
  obtain ⟨-, hread⟩ | ⟨-, hread⟩ := memRead_cases i s <;> rw [hread] at h <;> cases h
  rfl

/-- The bits of the front contribution: the front bits of the slot, behind the front gate (R123, R124). -/
theorem frontContribution_getLsbD (h : frontContribution s = .ok out) (i : Nat) :
    out.getLsbD i = (frontGate s && (s.slot s.readFront).getLsbD i && s.params.frontMask.getLsbD i) := by
  unfold frontContribution at h
  cases hgate : frontGate s
  · simp only [hgate, Bool.false_eq_true, if_false, Except.ok.injEq] at h
    simp [← h]
  · simp only [hgate, if_true] at h
    simp [memRead_map_eq_ok h]

/-- The bits of the back contribution: the back bits of the slot, behind the back gate (R127). -/
theorem backContribution_getLsbD (h : backContribution s = .ok out) (i : Nat) :
    out.getLsbD i = (backGate s && (s.slot s.readBack).getLsbD i && s.params.backMask.getLsbD i) := by
  unfold backContribution at h
  cases hgate : backGate s
  · simp only [hgate, Bool.false_eq_true, if_false, Except.ok.injEq] at h
    simp [← h]
  · simp only [hgate, if_true] at h
    simp [memRead_map_eq_ok h]

end

/-- Settles O19: each position is in one of the two masks. -/
theorem renderedBitsComeFromTheirColumns : Obligations.RenderedBitsComeFromTheirColumns := by
  intro s out i h hi
  obtain ⟨front, back, hfront, hback, rfl⟩ := renderColumn_cases h
  rw [BitVec.getLsbD_or, frontContribution_getLsbD hfront, backContribution_getLsbD hback,
    frontMask_getLsbD _ hi, backMask_getLsbD _ hi]
  split_ifs with hmine <;> simp [hmine, frontGate, backGate]

/-- A frame has 26 events (R136). -/
theorem length_frameEvents (b : Column) : (frameEvents b).length = 26 := rfl

/-- The three events of each bit of a frame, most significant bit first (R133). -/
theorem frameEvents_bit (b : Column) {k : Nat} (hk : k < 8) :
    (frameEvents b)[3 * k]? = some (.pin .data (b.getLsbD (7 - k))) ∧
      (frameEvents b)[3 * k + 1]? = some (.pin .clk true) ∧
      (frameEvents b)[3 * k + 2]? = some (.pin .clk false) := by
  interval_cases k <;> exact ⟨rfl, rfl, rfl⟩

/-- The two events of the latch pulse that ends a frame (R134). -/
theorem frameEvents_latch (b : Column) :
    (frameEvents b)[24]? = some (.pin .latch true) ∧ (frameEvents b)[25]? = some (.pin .latch false) := ⟨rfl, rfl⟩

/-- Where the events of a frame stand in a trace that holds them. -/
theorem getElem?_frame (before after : List Event) (b : Column) {j : Nat} (hj : j < 26) :
    (before ++ frameEvents b ++ after)[before.length + j]? = (frameEvents b)[j]? := by
  rw [List.append_assoc, List.getElem?_append_right (Nat.le_add_right _ _), Nat.add_sub_cancel_left,
    List.getElem?_append_left (by rwa [length_frameEvents])]

/-- Settles O20: the trace of `tickAdvance_trace`, position by position. -/
theorem tickShiftsLatchesThenDrives : Obligations.TickShiftsLatchesThenDrives := by
  intro s t out harmed hout h
  cases (exec_tick_of_rendered harmed hout).symm.trans h
  obtain ⟨hup, hdown⟩ := frameEvents_latch out
  rw [tickAdvance_trace]
  refine ⟨?_, fun k hk => ?_, ?_, ?_, ?_⟩
  · rw [List.append_assoc, List.take_left]
  · obtain ⟨hdata, hrise, hfall⟩ := frameEvents_bit out hk
    rw [Nat.add_assoc, Nat.add_assoc, getElem?_frame _ _ _ (by omega), getElem?_frame _ _ _ (by omega),
      getElem?_frame _ _ _ (by omega)]
    exact ⟨hdata, hrise, hfall⟩
  · rw [getElem?_frame _ _ _ (by decide), hup]
  · rw [getElem?_frame _ _ _ (by decide), hdown]
  · rw [← length_frameEvents out, ← List.length_append, List.drop_left, tickAdvance_underrun, tickAdvance_coil]
    cases underrunAfterTick s <;> rfl

/-- Settles O22: in underrun, with no push PUBLISHED, the buffer is empty, so the front wrap stops too. -/
theorem underrunStopsCursorsAndCoilsOnly : Obligations.UnderrunStopsCursorsAndCoilsOnly := by
  rintro s t ⟨hp, -, -, -, -, hempty, -⟩ harmed hu hstage h
  obtain ⟨out, hout, rfl⟩ := exec_tick_armed harmed h
  have hempty : s.readFront = s.writeEnd := (hempty hu).resolve_right hstage
  have hset := underrunAfterTick_of_set hu
  obtain ⟨hback, hcoil, htrace, -⟩ := tickAdvance_of_underrun out hset
  refine ⟨(tickAdvance_underrun out s).trans hset, ?_, hback, hcoil, ?_, ?_, ?_, out, hout, htrace⟩
  · simp [tickAdvance_readFront, hempty]
  · rw [tickAdvance_pixelStep, nextStep_toNat hp]
  · rw [tickAdvance_backStep, nextStep_toNat hp]
  · rw [tickAdvance_phaseIndex, nextPhase_toNat]

/-- Settles O23: only a front wrap on an empty buffer sets `underrun`, and steps 7 and 8 read it after that. -/
theorem tickThatSetsUnderrunAlreadyStops : Obligations.TickThatSetsUnderrunAlreadyStops := by
  intro s t h hclear hset
  obtain ⟨-, out, -, rfl⟩ | ⟨-, rfl⟩ := execTick_cases s t h
  · rw [tickAdvance_underrun] at hset
    obtain ⟨-, hwrap, hempty⟩ := underrunAfterTick_ne (s := s) (by simp [hset, hclear])
    obtain ⟨hback, hcoil, -, hcoils⟩ := tickAdvance_of_underrun out hset
    exact ⟨(tickAdvance_pixelStep out s).trans hwrap, hempty, by simp [tickAdvance_readFront, hempty], hback, hcoil,
      hcoils⟩
  · simp [hclear] at hset

/-- Settles O24: step 6 looks at the cursors alone, steps 7 and 8 at `underrun` alone. -/
theorem tickBetweenPublishAndClear : Obligations.TickBetweenPublishAndClear := by
  rintro s t ⟨hp, -⟩ harmed - hu hunread hwrap h
  obtain ⟨out, -, rfl⟩ := exec_tick_armed harmed h
  have hset := underrunAfterTick_of_set hu
  obtain ⟨hback, hcoil, -, hcoils⟩ := tickAdvance_of_underrun out hset
  refine ⟨?_, (tickAdvance_underrun out s).trans hset, hback, hcoil, hcoils⟩
  rw [tickAdvance_readFront, if_pos ⟨(nextStep_eq_zero_iff hp _).mpr hwrap, hunread⟩, nextIndex]

/-! ### The TICKs of one front pixel -/

/-- A block whose next TICKs take place: legal, its timer armed, its read cursors on slots. -/
structure TicksOn (s : State) : Prop where
  wellFormed : s.params.wellFormed = true
  armed : s.timerArmed = true
  front : s.readFront < s.params.cap
  back : s.readBack < s.params.cap

/-- The state `t` that `k` TICKs of one front pixel lead to from `s`: the front phase is `k` further on, and, with no
front wrap among them, the front cursor and `underrun` are as they were; out of underrun each TICK drove the coils. -/
structure WithinPixel (s : State) (k : Nat) (t : State) : Prop where
  ticksOn : TicksOn t
  params : t.params = s.params
  phase : t.pixelStep.toNat = s.pixelStep.toNat + k
  readFront : t.readFront = s.readFront
  writeEnd : t.writeEnd = s.writeEnd
  slots : t.slots = s.slots
  threshold : t.highlightedSteps = s.highlightedSteps
  underrun : t.underrun = s.underrun
  coilWrites : s.underrun = false → (coilsIn t.trace).length = (coilsIn s.trace).length + k

section
variable {s t : State}

/-- A TICK leaves the back cursor on a slot. -/
theorem tickAdvance_readBack_lt (hb : s.readBack < s.params.cap) (out : Column) :
    (tickAdvance out s).readBack < s.params.cap := by
  rw [tickAdvance_readBack]
  split_ifs
  · exact nextIndex_lt hb
  · exact hb

/-- After a TICK the next one takes place too. -/
theorem TicksOn.tick (h : TicksOn s) (out : Column) : TicksOn (tickAdvance out s) where
  wellFormed := by rw [tickAdvance_params]; exact h.wellFormed
  armed := by rw [tickAdvance_timerArmed]; exact h.armed
  front := by rw [tickAdvance_params]; exact tickAdvance_readFront_lt h.front out
  back := by rw [tickAdvance_params]; exact tickAdvance_readBack_lt h.back out

theorem TicksOn.exec_tick (h : TicksOn s) : ∃ out, exec .tick s = .next (tickAdvance out s) := by
  obtain ⟨out, -, hexec⟩ := exec_tick_of_cursors h.armed h.front h.back
  exact ⟨out, hexec⟩

theorem WithinPixel.refl (h : TicksOn s) : WithinPixel s 0 s :=
  ⟨h, rfl, rfl, rfl, rfl, rfl, rfl, rfl, fun _ => rfl⟩

/-- A TICK before the last of its pixel stays within the pixel (R139, R140). -/
theorem WithinPixel.tick {k : Nat} (h : WithinPixel s k t) (hk : s.pixelStep.toNat + (k + 1) < s.params.spp)
    (out : Column) : WithinPixel s (k + 1) (tickAdvance out t) := by
  have hnext : (nextStep t.params t.pixelStep).toNat = s.pixelStep.toNat + (k + 1) := by
    rw [nextStep_toNat h.ticksOn.wellFormed, h.params, h.phase, Nat.add_assoc, Nat.mod_eq_of_lt hk]
  have hnoWrap : nextStep t.params t.pixelStep ≠ 0 := by
    intro hzero
    rw [hzero] at hnext
    simp at hnext
  have hkept : underrunAfterTick t = t.underrun := underrunAfterTick_of_no_wrap hnoWrap
  refine ⟨h.ticksOn.tick out, ?_, ?_, ?_, ?_, ?_, ?_, ?_, fun hclear => ?_⟩
  · rw [tickAdvance_params, h.params]
  · rw [tickAdvance_pixelStep, hnext]
  · rw [tickAdvance_readFront, if_neg fun ⟨hwrap, _⟩ => hnoWrap hwrap, h.readFront]
  · rw [tickAdvance_writeEnd, h.writeEnd]
  · rw [tickAdvance_slots, h.slots]
  · rw [tickAdvance_highlightedSteps, h.threshold]
  · rw [tickAdvance_underrun, hkept, h.underrun]
  · rw [coilsIn_tickAdvance, hkept, h.underrun, hclear, List.length_append, h.coilWrites hclear]
    rfl

/-- TICKs up to the last of a pixel stay within the pixel. -/
theorem runTicks_withinPixel (h : TicksOn s) {k : Nat} (hk : s.pixelStep.toNat + k < s.params.spp) :
    ∃ t, runTicks k s = some t ∧ WithinPixel s k t := by
  induction k with
  | zero => exact ⟨s, rfl, .refl h⟩
  | succ k ih =>
    obtain ⟨t, hrun, ht⟩ := ih (by omega)
    obtain ⟨out, hexec⟩ := ht.ticksOn.exec_tick
    exact ⟨_, runTicks_succ_right hrun hexec, ht.tick hk out⟩

/-- The last TICK of a pixel is the front wrap (R140). -/
theorem WithinPixel.wraps {k : Nat} (h : WithinPixel s k t) (hk : s.pixelStep.toNat + k + 1 = s.params.spp) :
    nextStep t.params t.pixelStep = 0 := by
  rw [nextStep_eq_zero_iff h.ticksOn.wellFormed, h.phase, h.params, hk, Nat.mod_self]

/-- The whole of a pixel from its start: the TICKs before its last stay within it, and the last is the front wrap. -/
theorem runTicks_pixel (h : TicksOn s) (hstart : s.pixelStep = 0) :
    ∃ t out, runTicks (s.params.spp - 1) s = some t ∧ WithinPixel s (s.params.spp - 1) t ∧
      nextStep t.params t.pixelStep = 0 ∧ exec .tick t = .next (tickAdvance out t) ∧
      runTicks s.params.spp s = some (tickAdvance out t) := by
  have hpos := spp_pos h.wellFormed
  have hzero : s.pixelStep.toNat = 0 := by rw [hstart]; rfl
  obtain ⟨t, hrun, ht⟩ := runTicks_withinPixel h (k := s.params.spp - 1) (by omega)
  obtain ⟨out, hexec⟩ := ht.ticksOn.exec_tick
  have hlast := runTicks_succ_right hrun hexec
  rw [Nat.sub_add_cancel hpos] at hlast
  exact ⟨t, out, hrun, ht, ht.wraps (by omega), hexec, hlast⟩

/-- The TICKs of a pixel before its last, from its start. -/
theorem runTicks_pixel_before (h : TicksOn s) (hstart : s.pixelStep = 0) {k : Nat} (hk : k < s.params.spp) :
    ∃ t, runTicks k s = some t ∧ WithinPixel s k t ∧ t.pixelStep.toNat = k := by
  have hzero : s.pixelStep.toNat = 0 := by rw [hstart]; rfl
  obtain ⟨t, hrun, ht⟩ := runTicks_withinPixel h (k := k) (by omega)
  exact ⟨t, hrun, ht, by rw [ht.phase, hzero, Nat.zero_add]⟩

end

/-- Settles O28: the front cursor stays within the pixel, and its wrap finds the unread column still there. -/
theorem frontAdvancesOncePerPixel : Obligations.FrontAdvancesOncePerPixel := by
  intro s hp harmed hf hb hstart hunread
  have hticks : TicksOn s := ⟨hp, harmed, hf, hb⟩
  refine ⟨fun k hk => ?_, ?_⟩
  · obtain ⟨t, hrun, ht, -⟩ := runTicks_pixel_before hticks hstart hk
    exact ⟨t, hrun, ht.readFront⟩
  · obtain ⟨t, out, -, ht, hwrap, -, hrun⟩ := runTicks_pixel hticks hstart
    have hunread' : t.readFront ≠ t.writeEnd := by rwa [ht.readFront, ht.writeEnd]
    refine ⟨_, hrun, (tickAdvance_pixelStep out t).trans hwrap, ?_, ?_⟩
    · rw [tickAdvance_readFront, if_pos ⟨hwrap, hunread'⟩, ht.params, ht.readFront, nextIndex]
    · rw [tickAdvance_underrun, underrunAfterTick_of_unread hunread', ht.underrun]

/-- Settles O26: the wrap onto `writeEnd` leaves the buffer empty for the whole of the next pixel. -/
theorem lastColumnLeadsToTheUnpushedSlot : Obligations.LastColumnLeadsToTheUnpushedSlot := by
  rintro s t ⟨hp, ⟨hw, hf, hb⟩, -⟩ harmed hone hwrap h
  obtain ⟨out, -, rfl⟩ := exec_tick_armed harmed h
  have hwrap : nextStep s.params s.pixelStep = 0 := (nextStep_eq_zero_iff hp _).mpr hwrap
  have hunread : s.readFront ≠ s.writeEnd := by
    intro hempty
    simp [unread, hempty] at hone
  have honto : (tickAdvance out s).readFront = s.writeEnd := by
    rw [tickAdvance_readFront, if_pos ⟨hwrap, hunread⟩, nextIndex_eq hf]
    rw [unread_eq hw hf] at hone
    split_ifs at hone ⊢ <;> omega
  have hkept : (tickAdvance out s).underrun = s.underrun :=
    (tickAdvance_underrun out s).trans (underrunAfterTick_of_unread hunread)
  have hticks : TicksOn (tickAdvance out s) := TicksOn.tick ⟨hp, harmed, hf, hb⟩ out
  obtain ⟨u, out', hrun, hu, hwrap', hexec, -⟩ :=
    runTicks_pixel hticks ((tickAdvance_pixelStep out s).trans hwrap)
  have hempty : u.readFront = u.writeEnd := by rw [hu.readFront, hu.writeEnd, honto, tickAdvance_writeEnd]
  have hfront : u.readFront = s.writeEnd := hu.readFront.trans honto
  rw [tickAdvance_params] at hrun
  refine ⟨honto, hkept, u, _, hrun, hfront, hu.underrun.trans hkept, hexec, ?_, ?_⟩
  · rw [tickAdvance_readFront, if_neg fun ⟨_, hunread⟩ => hunread hempty, hfront]
  · simp [underrunAfterTick, hwrap', hempty]

/-- Within a pixel the front gate compares the TICKs gone by with the threshold (R123). -/
theorem WithinPixel.frontContribution_eq {s t : State} {k : Nat} (h : WithinPixel s k t) (hk : t.pixelStep.toNat = k) :
    frontGate t = decide (k ≤ s.highlightedSteps.toNat) ∧
      frontContribution t =
        .ok (if k ≤ s.highlightedSteps.toNat then s.slot s.readFront &&& s.params.frontMask else 0) := by
  have hgate : frontGate t = decide (k ≤ s.highlightedSteps.toNat) := by rw [frontGate, hk, h.threshold]
  refine ⟨hgate, ?_⟩
  split_ifs with hlit
  · rw [frontContribution_of_gate (hgate.trans (decide_eq_true hlit)) h.ticksOn.front,
      State.slot_congr h.params h.slots, h.readFront, h.params]
  · rw [frontContribution, hgate, decide_eq_false hlit]
    rfl

/-- The numbers below `n` that are at most `m` are the first `min (m + 1) n`. -/
theorem length_filter_range_le (m n : Nat) :
    ((List.range n).filter (fun k => decide (k ≤ m))).length = min (m + 1) n := by
  induction n with
  | zero => simp
  | succ n ih =>
    rw [List.range_succ, List.filter_append, List.length_append, ih]
    by_cases hn : n ≤ m <;> simp [hn] <;> omega

/-- Settles O27: the gate of `WithinPixel.frontContribution_eq` at each TICK of the pixel, and the count of the open
ones. -/
theorem pixelIsLitForThresholdPlusOneTicks : Obligations.PixelIsLitForThresholdPlusOneTicks := by
  intro s hp harmed hf hb hstart
  have hticks : TicksOn s := ⟨hp, harmed, hf, hb⟩
  refine ⟨fun k hk => ?_, ?_⟩
  · obtain ⟨t, hrun, ht, hphase⟩ := runTicks_pixel_before hticks hstart hk
    obtain ⟨-, hcontribution⟩ := ht.frontContribution_eq hphase
    have hlit : k < min (s.highlightedSteps.toNat + 1) s.params.spp ↔ k ≤ s.highlightedSteps.toNat := by omega
    exact ⟨t, hrun, hphase, by rw [hcontribution, if_congr hlit rfl rfl]⟩
  · have hgates : ∀ k ∈ List.range s.params.spp,
        (runTicks k s).any frontGate = decide (k ≤ s.highlightedSteps.toNat) := by
      intro k hk
      obtain ⟨t, hrun, ht, hphase⟩ := runTicks_pixel_before hticks hstart (List.mem_range.mp hk)
      obtain ⟨hgate, -⟩ := ht.frontContribution_eq hphase
      rw [hrun, Option.any_some, hgate]
    rw [List.filter_congr hgates, length_filter_range_le]

/-- Settles O32: the first pixel after reset, whose wrap finds the buffer as empty as RESET left it. -/
theorem emptyBufferUnderrunsAtFirstFrontWrap : Obligations.EmptyBufferUnderrunsAtFirstFrontWrap := by
  intro p hp hclear
  obtain ⟨-, ⟨-, hf, hb⟩, -⟩ := resetOf_inv hp
  have hticks : TicksOn (State.resetOf p) := ⟨hp, rfl, hf, hb⟩
  refine ⟨fun n hn => ?_, ?_⟩
  · obtain ⟨t, hrun, ht, -⟩ := runTicks_pixel_before hticks rfl hn
    exact ⟨t, hrun, ht.underrun.trans hclear, (ht.coilWrites hclear).trans (Nat.zero_add n)⟩
  · obtain ⟨t, out, -, ht, hwrap, -, hrun⟩ := runTicks_pixel hticks rfl
    have hempty : t.readFront = t.writeEnd := ht.readFront.trans ht.writeEnd.symm
    have hset : underrunAfterTick t = true := by simp [underrunAfterTick, hwrap, hempty]
    obtain ⟨-, -, -, hcoils⟩ := tickAdvance_of_underrun out hset
    refine ⟨_, hrun, (tickAdvance_underrun out t).trans hset, ?_, (tickAdvance_pixelStep out t).trans hwrap, ?_⟩
    · rw [tickAdvance_readFront, if_neg fun ⟨_, hunread⟩ => hunread hempty, ht.readFront]
      rfl
    · rw [hcoils, ht.coilWrites hclear]
      have hpos := spp_pos hp
      simp only [State.resetOf, coilsIn_nil, List.length_nil]
      omega

/-! ### The read cursors over any run -/

/-- A read cursor that every step but RESET moves on at a wrap that is not stopped, and otherwise leaves. -/
structure MovesAtWraps (cursor : State → Nat) (wrap stop : State → Bool) : Prop where
  wrap_of_stop : ∀ s, stop s = true → wrap s = true
  step : ∀ s t, nextStimulus s ≠ .reset → Sys2Proof.Machine.step s = .next t →
    cursor t = if wrap s = true ∧ stop s = false then nextIndex s.params (cursor s) else cursor s

/-- The producer port writes no coil (R54). -/
theorem PortMove.coilsIn_eq {m : Stimulus} {s t : State} (h : PortMove m s t) :
    coilsIn t.trace = coilsIn s.trace := by
  cases h <;> simp

/-- A step but RESET is a TICK that takes place, or leaves the parameters, the read cursors, the phase and the coils
(R54). -/
theorem step_tick_cases {s t : State} (hreset : nextStimulus s ≠ .reset) (h : step s = .next t) :
    (tickIsNext s = true ∧ ∃ out, t = tickAdvance out (takeStimulus s)) ∨
      (tickIsNext s = false ∧ t.params = s.params ∧ t.readFront = s.readFront ∧ t.readBack = s.readBack ∧
        t.phaseIndex = s.phaseIndex ∧ t.coil = s.coil ∧ coilsIn t.trace = coilsIn s.trace) := by
  obtain ⟨hm, moves, -, hmove⟩ | ⟨hn, harmed, out, -, rfl⟩ | ⟨-, hdisarmed, rfl⟩ | ⟨hn, -⟩ := step_next_cases h
  · obtain ⟨hfront, hback, -⟩ := hmove.readSide_eq
    obtain ⟨hphase, hcoil, -⟩ := hmove.outputs_eq
    have hnoTick : tickIsNext s = false := by simp [tickIsNext, (Stimulus.isProducer_iff.mp hm).1]
    exact .inr ⟨hnoTick, hmove.params_eq, hfront, hback, hphase, hcoil, hmove.coilsIn_eq⟩
  · exact .inl ⟨by simp [tickIsNext, hn, harmed], out, rfl⟩
  · exact .inr ⟨by simp [tickIsNext, hdisarmed], rfl, rfl, rfl, rfl, rfl, rfl⟩
  · exact absurd hn hreset

/-- The front cursor moves at the front wraps that do not find it on the write cursor (R141). -/
theorem readFront_movesAtWraps : MovesAtWraps State.readFront frontWrapIsNext frontStopIsNext where
  wrap_of_stop s h := by
    obtain ⟨hwrap, -⟩ := Bool.and_eq_true_iff.mp h
    exact hwrap
  step s t hreset h := by
    obtain ⟨htick, out, rfl⟩ | ⟨hnone, -, hfront, -⟩ := step_tick_cases hreset h
    · by_cases hwrap : nextStep s.params s.pixelStep = 0#8 <;>
        simp [tickAdvance_readFront, frontStopIsNext, frontWrapIsNext, htick, hwrap]
    · simp [hfront, frontWrapIsNext, hnone]

/-- The back cursor moves at the back wraps that do not find `underrun` set (R143). -/
theorem readBack_movesAtWraps : MovesAtWraps State.readBack backWrapIsNext backStopIsNext where
  wrap_of_stop s h := by
    obtain ⟨hwrap, -⟩ := Bool.and_eq_true_iff.mp h
    exact hwrap
  step s t hreset h := by
    obtain ⟨htick, out, rfl⟩ | ⟨hnone, -, -, hback, -⟩ := step_tick_cases hreset h
    · have hunderrun : underrunAfterTick (takeStimulus s) = underrunAfterTick s := rfl
      by_cases hwrap : nextStep s.params s.backStep = 0#8 <;>
        simp [tickAdvance_readBack, backStopIsNext, backWrapIsNext, htick, hunderrun, hwrap]
    · simp [hback, backWrapIsNext, hnone]

section
variable {cursor : State → Nat} {wrap stop : State → Bool} (h : MovesAtWraps cursor wrap stop)
include h

/-- One step moves the cursor by its wrap less its stop, modulo CAP. -/
theorem MovesAtWraps.drift_step {s t : State} (hreset : nextStimulus s ≠ .reset) (hstep : Machine.step s = .next t) :
    (s.params.cap : Int) ∣
      cursor t - (cursor s + ((if wrap s then 1 else 0) - (if stop s then 1 else 0))) := by
  rw [h.step s t hreset hstep]
  cases hstop : stop s
  · cases hwrap : wrap s
    · simp
    · simp [nextIndex, Int.dvd_emod_sub_self]
  · simp [h.wrap_of_stop s hstop]

/-- A run without RESET moves the cursor by its wraps less its stops, modulo CAP. -/
theorem MovesAtWraps.drift_run {n : Nat} {s t : State} (hreset : .reset ∉ s.agenda)
    (hrun : Sys2Proof.core.run n s = .next t) :
    (s.params.cap : Int) ∣ cursor t - (cursor s + (countSteps wrap n s - countSteps stop n s)) := by
  induction n generalizing s with
  | zero =>
    cases hrun
    simp [countSteps]
  | succ n ih =>
    obtain ⟨u, hstep, hrest⟩ := run_succ_cases n s t hrun
    have hfirst := h.drift_step (nextStimulus_ne_reset hreset) hstep
    have hlater := ih (step_reset_notMem hstep hreset) hrest
    rw [noTransitionChangesAParameter s u hstep] at hlater
    simp only [countSteps, hstep]
    convert Int.dvd_add hlater hfirst using 1
    push_cast
    ring

end

/-- Settles O33: the drift of each cursor, and their difference. -/
theorem backCursorDriftsByStoppedWraps : Obligations.BackCursorDriftsByStoppedWraps := by
  intro n s t hreset hrun frontWraps backWraps frontStops backStops
  have hfront := readFront_movesAtWraps.drift_run hreset hrun
  have hback := readBack_movesAtWraps.drift_run hreset hrun
  refine ⟨hfront, hback, ?_⟩
  convert Int.dvd_sub hback hfront using 1
  ring

/-! ### The coils over any run in which no TICK writes them -/

/-- The state `t` after `k` TICKs from `s`, none of which wrote the coils: they hold their pattern, and the phase has
gone on by `k` entries in the direction of the motor (R160, R166). -/
structure CoilsHeld (s : State) (k : Nat) (t : State) : Prop where
  params : t.params = s.params
  coil : t.coil = s.coil
  coilWrites : coilsIn t.trace = coilsIn s.trace
  phase : (t.phaseIndex.toNat : Int) = ((s.phaseIndex.toNat : Int) + k * directionValue s.dneg) % 8

theorem CoilsHeld.refl (s : State) : CoilsHeld s 0 s where
  params := rfl
  coil := rfl
  coilWrites := rfl
  phase := by
    have hlt := s.phaseIndex.isLt
    omega

section
variable {s t u : State} {k : Nat}

/-- A TICK that ends in underrun leaves the coils and takes the phase one entry on (R160, R166). -/
theorem CoilsHeld.tick (h : CoilsHeld s k t) (hu : underrunAfterTick t = true) (hdneg : t.dneg = s.dneg)
    (out : Column) : CoilsHeld s (k + 1) (tickAdvance out t) := by
  obtain ⟨-, hcoil, -, hcoils⟩ := tickAdvance_of_underrun out hu
  refine ⟨?_, hcoil.trans h.coil, hcoils.trans h.coilWrites, ?_⟩
  · rw [tickAdvance_params, h.params]
  · rw [tickAdvance_phaseIndex, nextPhase_toNat, h.phase, hdneg, Int.emod_add_emod, Nat.cast_succ, add_one_mul,
      add_assoc]

/-- A step but RESET goes on by one TICK if it is one, and leaves coils and phase otherwise. -/
theorem CoilsHeld.step (h : CoilsHeld s k t) (hreset : nextStimulus t ≠ .reset)
    (hu : tickIsNext t = true → underrunAfterTick t = true) (hdneg : t.dneg = s.dneg) (hstep : step t = .next u) :
    CoilsHeld s (k + if tickIsNext t then 1 else 0) u := by
  obtain ⟨htick, out, rfl⟩ | ⟨hnone, hparams, -, -, hphase, hcoil, hcoils⟩ := step_tick_cases hreset hstep
  · rw [htick]
    exact CoilsHeld.tick (t := takeStimulus t) ⟨h.params, h.coil, h.coilWrites, h.phase⟩ (hu htick) hdneg out
  · rw [hnone]
    exact ⟨hparams.trans h.params, hcoil.trans h.coil, hcoils.trans h.coilWrites, hphase ▸ h.phase⟩

/-- A run without RESET in which every TICK ends in underrun goes on by the TICKs in it, if the direction is kept. -/
theorem CoilsHeld.run {n : Nat} (h : CoilsHeld s k t) (hreset : .reset ∉ t.agenda)
    (hrun : Sys2Proof.core.run n t = .next u)
    (hu : ∀ (j : Nat) (x : State), j < n → Sys2Proof.core.run j t = .next x → tickIsNext x = true →
      underrunAfterTick x = true)
    (hdneg : ∀ (j : Nat) (x : State), j ≤ n → Sys2Proof.core.run j t = .next x → x.dneg = s.dneg) :
    CoilsHeld s (k + countSteps tickIsNext n t) u := by
  induction n generalizing k t with
  | zero =>
    cases hrun
    exact h
  | succ n ih =>
    obtain ⟨v, hstep, hrest⟩ := run_succ_cases n t u hrun
    have hfirst (j : Nat) : Sys2Proof.core.run (j + 1) t = Sys2Proof.core.run j v := run_succ_next j t v hstep
    have hnext := h.step (nextStimulus_ne_reset hreset) (hu 0 t (Nat.succ_pos n) rfl) (hdneg 0 t (Nat.zero_le _) rfl)
      hstep
    have hgo := ih hnext (step_reset_notMem hstep hreset) hrest
      (fun j x hj hx => hu (j + 1) x (Nat.succ_lt_succ hj) ((hfirst j).trans hx))
      fun j x hj hx => hdneg (j + 1) x (Nat.succ_le_succ hj) ((hfirst j).trans hx)
    rw [Nat.add_assoc] at hgo
    simpa only [countSteps, hstep] using hgo

/-- The pattern that a TICK drives after `k` silent ones is `k + 1` entries on (R168 item 4). -/
theorem CoilsHeld.next_pattern (h : CoilsHeld s k t) (hdneg : t.dneg = s.dneg) :
    phasePattern (tickPhase t) =
      tableAt s.params ((s.phaseIndex.toNat : Int) + ((k : Int) + 1) * directionValue s.dneg) := by
  rw [phasePattern_tickPhase, h.params, h.phase, hdneg, tableAt, tableAt, Int.emod_add_emod, add_one_mul, add_assoc]

/-- The next step is a TICK at the timer's turn with the timer armed. -/
theorem tickIsNext_iff : tickIsNext s = true ↔ nextStimulus s = .timer ∧ s.timerArmed = true := by
  rw [tickIsNext, Bool.and_eq_true, beq_iff_eq]

/-- A TICK that comes next out of underrun ends in it exactly where its front wrap is stopped (R141). -/
theorem underrunAfterTick_eq_frontStop (htick : tickIsNext s = true) (hclear : s.underrun = false) :
    underrunAfterTick s = frontStopIsNext s := by
  rw [underrunAfterTick_of_clear hclear, frontStopIsNext, frontWrapIsNext, htick, Bool.true_and]

end

/-- Settles O53: `CoilsHeld.run` up to the first TICK that starts out of underrun, which drives the next pattern unless
its front wrap is stopped. -/
theorem coilsJumpOnResumeInEveryRun : Obligations.CoilsJumpOnResumeInEveryRun := by
  intro n s t hreset _ hrun hu hdneg htick hclear hf hb silentTicks
  have hheld : CoilsHeld s (countSteps tickIsNext n s) t := by
    simpa only [Nat.zero_add] using (CoilsHeld.refl s).run hreset hrun hu hdneg
  have hdneg' : t.dneg = s.dneg := hdneg n t le_rfl hrun
  obtain ⟨hn, harmed⟩ := tickIsNext_iff.mp htick
  obtain ⟨out, -, hexec⟩ := exec_tick_of_cursors (s := takeStimulus t) harmed hf hb
  have hends : underrunAfterTick (takeStimulus t) = frontStopIsNext t := underrunAfterTick_eq_frontStop htick hclear
  have hpattern : phasePattern (tickPhase (takeStimulus t)) = _ := hheld.next_pattern hdneg'
  refine ⟨_, (step_timer hn).trans hexec, hheld.coil, ?_⟩
  rw [tickAdvance_underrun, tickAdvance_coil, coilsIn_tickAdvance, hends, hpattern]
  cases frontStopIsNext t
  · exact ⟨rfl, rfl, congrArg (· ++ _) hheld.coilWrites⟩
  · exact ⟨rfl, hheld.coil, (List.append_nil _).trans hheld.coilWrites⟩

end Sys2Proof.Machine

namespace Sys2Proof.Machine

/-! ### Consecutive TICKs that all end in underrun, or all out of it -/

/-- The state `t` as TICKs leave it that started in `s`: the next TICK takes place, and the direction and the port are
as they were (R54). -/
structure AfterTicks (s t : State) : Prop where
  armed : t.timerArmed = true
  front : t.readFront < t.params.cap
  back : t.readBack < t.params.cap
  dneg : t.dneg = s.dneg
  halted : t.halted = s.halted
  pushStage : t.pushStage = s.pushStage

section
variable {s t : State}

theorem AfterTicks.refl (harmed : s.timerArmed = true) (hf : s.readFront < s.params.cap)
    (hb : s.readBack < s.params.cap) : AfterTicks s s :=
  ⟨harmed, hf, hb, rfl, rfl, rfl⟩

theorem AfterTicks.tick (h : AfterTicks s t) (out : Column) : AfterTicks s (tickAdvance out t) := by
  obtain ⟨-, -, hdneg, -, -, harmed, hhalted, hstage, -, hparams⟩ := tickAdvance_frame out t
  refine ⟨harmed.trans h.armed, ?_, ?_, hdneg.trans h.dneg, hhalted.trans h.halted, hstage.trans h.pushStage⟩
  · rw [hparams]
    exact tickAdvance_readFront_lt h.front out
  · rw [hparams]
    exact tickAdvance_readBack_lt h.back out

/-- Induction over TICKs that all end with `underrun` at the same value: what holds before them, and what each such TICK
takes one tick on, holds after them. -/
theorem runTicks_induction {n : Nat} {flag : Bool} {motive : Nat → State → Prop} (h : AfterTicks s s)
    (hu : ∀ (k : Nat) (t : State), 1 ≤ k → k ≤ n → runTicks k s = some t → t.underrun = flag)
    (zero : motive 0 s)
    (tick : ∀ (k : Nat) (t : State) (out : Column), t.dneg = s.dneg → underrunAfterTick t = flag → motive k t →
      motive (k + 1) (tickAdvance out t)) :
    ∃ t, runTicks n s = some t ∧ AfterTicks s t ∧ motive n t := by
  induction n with
  | zero => exact ⟨s, rfl, h, zero⟩
  | succ n ih =>
    obtain ⟨t, hrun, ht, hmotive⟩ := ih fun k t h1 hk => hu k t h1 (Nat.le_succ_of_le hk)
    obtain ⟨out, -, hexec⟩ := exec_tick_of_cursors ht.armed ht.front ht.back
    have hrun' := runTicks_succ_right hrun hexec
    have hends : underrunAfterTick t = flag :=
      (tickAdvance_underrun out t).symm.trans (hu (n + 1) _ (Nat.le_add_left 1 n) le_rfl hrun')
    exact ⟨_, hrun', ht.tick out, tick n t out ht.dneg hends hmotive⟩

end

/-! ### The coils over TICKs that all write them -/

/-- The state `t` after `k` TICKs from `s`, each of which wrote the coils: the phase has walked `k` entries in the
direction of the motor, and the trace holds their patterns (R169). -/
structure CoilsDriven (s : State) (k : Nat) (t : State) : Prop where
  params : t.params = s.params
  phase : (t.phaseIndex.toNat : Int) = ((s.phaseIndex.toNat : Int) + k * directionValue s.dneg) % 8
  coilWrites : coilsIn t.trace = coilsIn s.trace ++
    (List.range k).map (fun j : Nat =>
      tableAt s.params ((s.phaseIndex.toNat : Int) + ((j : Int) + 1) * directionValue s.dneg))

section
variable {s t : State} {k : Nat}

theorem CoilsDriven.refl (s : State) : CoilsDriven s 0 s where
  params := rfl
  phase := (CoilsHeld.refl s).phase
  coilWrites := (List.append_nil _).symm

/-- A TICK out of underrun takes the phase one entry on and writes the pattern there (R160, R166). -/
theorem CoilsDriven.tick (h : CoilsDriven s k t) (hu : underrunAfterTick t = false) (hdneg : t.dneg = s.dneg)
    (out : Column) : CoilsDriven s (k + 1) (tickAdvance out t) := by
  have hpattern : phasePattern (tickPhase t) =
      tableAt s.params ((s.phaseIndex.toNat : Int) + ((k : Int) + 1) * directionValue s.dneg) := by
    rw [phasePattern_tickPhase, h.params, h.phase, hdneg, tableAt, tableAt, Int.emod_add_emod, add_one_mul, add_assoc]
  refine ⟨?_, ?_, ?_⟩
  · rw [tickAdvance_params, h.params]
  · rw [tickAdvance_phaseIndex, nextPhase_toNat, h.phase, hdneg, Int.emod_add_emod, Nat.cast_succ, add_one_mul,
      add_assoc]
  · rw [coilsIn_tickAdvance, hu, h.coilWrites, hpattern, List.range_succ, List.map_append, List.append_assoc]
    rfl

end

/-- Settles O30: each of the TICKs ends out of underrun, so the coils are driven over all of them. The
statement's patterns run over the numbers below `n` cast to whole numbers beforehand, which `List.map_map` undoes. -/
theorem phaseWalksTheTable : Obligations.PhaseWalksTheTable := by
  intro n s harmed hf hb hu
  obtain ⟨t, hrun, -, hdriven⟩ := runTicks_induction (motive := CoilsDriven s) (.refl harmed hf hb) hu (.refl s)
    fun _ _ out hdneg hclear h => h.tick hclear hdneg out
  refine ⟨t, hrun, hdriven.phase, ?_⟩
  rw [hdriven.coilWrites, bind_pure_comp, List.map_eq_map, List.map_map]
  rfl

/-! ### The first TICK after a PUSH -/

/-- The state `u` after the whole of a PUSH from `t`: out of underrun with an unread column, and with all that a TICK
needs but the slot as it was. -/
structure Resumed (t u : State) : Prop where
  clear : u.underrun = false
  unread : u.readFront ≠ u.writeEnd
  params : u.params = t.params
  readFront : u.readFront = t.readFront
  readBack : u.readBack = t.readBack
  armed : u.timerArmed = t.timerArmed
  dneg : u.dneg = t.dneg
  phase : u.phaseIndex = t.phaseIndex
  coil : u.coil = t.coil
  coilWrites : coilsIn u.trace = coilsIn t.trace

section
variable {s t u : State} {k : Nat}

/-- A block with unread columns and no PUSH in flight is out of underrun (R49 item 4). -/
theorem underrun_of_unread (h : t.Inv) (hp : t.pushStage = .idle) (hne : t.readFront ≠ t.writeEnd) :
    t.underrun = false := by
  obtain ⟨-, -, -, -, -, hunderrun, -⟩ := h
  refine Bool.eq_false_iff.mpr fun hu => ?_
  obtain hempty | hpublished := hunderrun hu
  · exact hne hempty
  · simp [hp] at hpublished

/-- With unread columns the cursors stand apart (R48). -/
theorem readFront_ne_of_unread_pos (h : 0 < unread t) : t.readFront ≠ t.writeEnd := by
  intro hempty
  simp [unread, hempty] at h

/-- A PUSH completes, accepted or turned away, and leaves unread columns and no underrun behind (R100 to R106). -/
theorem wholePush_resumes (c : Column) (h : t.Inv) (hh : t.halted = false) (hp : t.pushStage = .idle) :
    ∃ u, wholePush c t = some u ∧ Resumed t u := by
  have hroom := unread_add_three_le h
  have ⟨hparams, ⟨hw, hf, _⟩, _⟩ := h
  obtain ⟨hcap, -⟩ := (Params.wellFormed_iff t.params).mp hparams
  cases hfull : bufferFull t with
  | true =>
    have hne : t.readFront ≠ t.writeEnd := fun hempty => by simp [bufferFull_of_empty hcap hempty] at hfull
    exact ⟨_, wholePush_full c hh hp hfull, underrun_of_unread h hp hne, hne, rfl, rfl, rfl, rfl, rfl, rfl, rfl,
      by simp⟩
  | false =>
    have htakes : HasRoom 1 t := ⟨hh, hp, hw, hf, hroom hfull⟩
    have hpos : 0 < unread (afterPush c t) := by
      rw [htakes.unread_afterPush_eq c]
      exact Nat.succ_pos _
    exact ⟨_, htakes.wholePush_eq c, rfl, readFront_ne_of_unread_pos hpos, rfl, rfl, rfl, rfl, rfl, rfl, rfl,
      by simp⟩

/-- The coils are held through a PUSH. -/
theorem CoilsHeld.resumed (h : CoilsHeld s k t) (hu : Resumed t u) : CoilsHeld s k u where
  params := hu.params.trans h.params
  coil := hu.coil.trans h.coil
  coilWrites := hu.coilWrites.trans h.coilWrites
  phase := by rw [hu.phase, h.phase]

end

/-- Settles O31: the coils are held over the TICKs in underrun and through the PUSH, and the next TICK finds an unread
column, so it stays out of underrun and drives the next pattern. -/
theorem coilsJumpOnResume : Obligations.CoilsJumpOnResume := by
  intro k c s hinv hh hp _ hu
  have ⟨_, ⟨_, hf, hb⟩, _, _, _, _, _, _, htimer, _⟩ := hinv
  have harmed : s.timerArmed = true := by rw [htimer, hh, Bool.not_false]
  obtain ⟨t, hrun, hafter, hinvT, hheldT⟩ := runTicks_induction (motive := fun j x => x.Inv ∧ CoilsHeld s j x)
    (.refl harmed hf hb) hu ⟨hinv, .refl s⟩
    fun _ _ out hdneg hset ⟨hi, hheld⟩ => ⟨inv_tickAdvance hi out, hheld.tick hset hdneg out⟩
  obtain ⟨u, hpush, hresumed⟩ := wholePush_resumes c hinvT (hafter.halted.trans hh) (hafter.pushStage.trans hp)
  have hheld : CoilsHeld s k u := hheldT.resumed hresumed
  obtain ⟨out, -, hexec⟩ := exec_tick_of_cursors (hresumed.armed.trans hafter.armed)
    (by rw [hresumed.readFront, hresumed.params]; exact hafter.front)
    (by rw [hresumed.readBack, hresumed.params]; exact hafter.back)
  have hclear : underrunAfterTick u = false := (underrunAfterTick_of_unread hresumed.unread).trans hresumed.clear
  have hcoil : (tickAdvance out u).coil = phasePattern (tickPhase u) := by
    rw [tickAdvance_coil, hclear]
    rfl
  refine ⟨t, u, _, hrun, hpush, hexec, hheldT.coil, (tickAdvance_underrun out u).trans hclear, ?_, ?_⟩
  · rw [hcoil, hheld.next_pattern (hresumed.dneg.trans hafter.dneg)]
  · rw [hcoil, coilsIn_tickAdvance, hclear, hheld.coilWrites]
    rfl

end Sys2Proof.Machine

namespace Sys2Proof.Machine

/-! ### The commands of the ConfigurationPort -/

/-- With no PUSH in flight the port's gate tests the halt alone (R84, R89). -/
theorem portCommand_of_idle {run : State → Host.Outcome State Fault Refusal} {s : State} (hp : s.pushStage = .idle) :
    portCommand run s = if s.halted then .next (respond .halted s) else run s := by
  simp only [portCommand, hp, if_true]

/-- A legal SPP fits the threshold's 8 bits, so the clamp loses nothing (R9, R182). -/
theorem clampHighlighted_toNat {p : Params} (hp : p.wellFormed = true) (n : Arg) :
    (clampHighlighted p n).toNat = min n.toNat p.spp :=
  toNat_ofNat_of_le_spp hp (min_le_right _ _)

/-- Settles O34: the gate, then the update of `setDirection`. -/
theorem setdirStoresTheDirection : Obligations.SetdirStoresTheDirection :=
  fun _ _ hp => portCommand_of_idle hp

/-- Settles O35: the gate, then the update of `setHighlighted`, whose clamp is exact. -/
theorem sethlStoresTheClampedRequest : Obligations.SethlStoresTheClampedRequest :=
  fun n _ hwf hp => ⟨_, clampHighlighted_toNat hwf n, portCommand_of_idle hp⟩

/-- Settles O38: SHUTDOWN leaves the timer disarmed, and a disarmed timer does not tick. -/
theorem shutdownDisarmsAndHalts : Obligations.ShutdownDisarmsAndHalts :=
  fun _ hh hp => ⟨_, portCommand_eq_run hh hp, rfl, disarmedTimerDoesNotTick _ rfl⟩

/-! ### The binary32 operand of SETSPEED -/

section
variable (rpm : Arg)

/-- The exponent field as a whole number (R82). -/
theorem exponentOf_toNat : (exponentOf rpm).toNat = rpm.toNat / 2 ^ 23 % 2 ^ 8 := by
  rw [exponentOf, BitVec.extractLsb'_toNat, Nat.shiftRight_eq_div_pow]

/-- The fraction field as a whole number (R82). -/
theorem fractionOf_toNat : (fractionOf rpm).toNat = rpm.toNat % 2 ^ 23 := by
  rw [fractionOf, BitVec.extractLsb'_toNat, Nat.shiftRight_zero]

/-- `ARG[30:0]` is 0 exactly where the exponent and the fraction are (R82). -/
theorem magnitudeBits_eq_zero_iff : rpm.extractLsb' 0 31 = 0 ↔ exponentOf rpm = 0 ∧ fractionOf rpm = 0 := by
  simp only [← BitVec.toNat_inj, exponentOf_toNat, fractionOf_toNat, BitVec.extractLsb'_toNat, Nat.shiftRight_zero,
    BitVec.ofNat_eq_ofNat, BitVec.toNat_ofNat]
  omega

/-- The magnitude is 0 exactly where `ARG[30:0]` is: a normal number has its leading 1 (R82, R184). -/
theorem rpmUnits_eq_zero_iff : rpmUnits rpm = 0 ↔ rpm.extractLsb' 0 31 = 0 := by
  rw [magnitudeBits_eq_zero_iff, rpmUnits]
  split_ifs with he
  · simp [he, ← BitVec.toNat_inj]
  · have hunits : (2 ^ 23 + (fractionOf rpm).toNat) * 2 ^ ((exponentOf rpm).toNat - 1) ≠ 0 := by positivity
    exact iff_of_false hunits fun hzero => he hzero.1

/-- A binary32 stands for its sign times its whole number of units of 2^−149 (R82). -/
theorem rpmValue_eq : rpmValue rpm = (if signOf rpm then -1 else 1) * rpmUnits rpm / 2 ^ 149 := by
  by_cases he : exponentOf rpm = 0
  · simp only [rpmValue, rpmUnits, he, if_true]
    ring
  · have hpos : (exponentOf rpm).toNat ≠ 0 := by simpa [← BitVec.toNat_inj] using he
    obtain ⟨k, hk⟩ := Nat.exists_eq_succ_of_ne_zero hpos
    simp only [rpmValue, rpmUnits, he, if_false, hk, Nat.succ_sub_one, pow_succ']
    push_cast
    ring

/-- The operand is greater than zero exactly where its sign bit is clear and its magnitude is not 0 (R184). -/
theorem rpmValue_pos_iff : 0 < rpmValue rpm ↔ signOf rpm = false ∧ rpmUnits rpm ≠ 0 := by
  rw [rpmValue_eq, div_pos_iff_of_pos_right (by positivity), ← Nat.pos_iff_ne_zero]
  cases signOf rpm <;> simp

/-- The test on the fields is the test on the value: finite and greater than zero (R184). -/
theorem rpmAccepted_iff : rpmAccepted rpm = true ↔ exponentOf rpm ≠ 255 ∧ 0 < rpmValue rpm := by
  rw [rpmValue_pos_iff, Ne, Ne, rpmUnits_eq_zero_iff, rpmAccepted]
  simp only [Bool.and_eq_true, Bool.not_eq_true', bne_iff_ne]
  tauto

/-- The quotient in whole numbers is the floor of the exact one, for an operand that is not negative (R185). -/
theorem floor_interval (h : signOf rpm = false) (stepsPerRotation : Nat) :
    ⌊(60000 : ℚ) / (rpmValue rpm * (stepsPerRotation : ℚ))⌋₊ =
      60000 * 2 ^ 149 / (rpmUnits rpm * stepsPerRotation) := by
  have hquotient : (60000 : ℚ) / (rpmValue rpm * (stepsPerRotation : ℚ)) =
      (60000 * 2 ^ 149 : ℕ) / (rpmUnits rpm * stepsPerRotation : ℕ) := by
    rw [rpmValue_eq, h, if_neg Bool.false_ne_true, one_mul, div_mul_eq_mul_div, div_div_eq_mul_div]
    norm_cast
  rw [hquotient, Nat.floor_div_eq_div]

/-- The saturated quotient fits the register, so it is stored as it is (R185). -/
theorem intervalOf_toNat (p : Params) :
    (intervalOf p rpm).toNat = min (60000 * 2 ^ 149 / (rpmUnits rpm * p.stepsPerRotation)) (2 ^ 32 - 1) := by
  rw [intervalOf, BitVec.toNat_ofNat, Nat.mod_eq_of_lt (by omega)]

end

/-- Settles O36: the operand passes the test of `rpmAccepted_iff`, and the interval is the floor of the exact
quotient. -/
theorem setspeedStoresTheExactInterval : Obligations.SetspeedStoresTheExactInterval := by
  intro rpm s hh hp hfinite hpos
  obtain ⟨hsign, -⟩ := (rpmValue_pos_iff rpm).mp hpos
  have haccepted : rpmAccepted rpm = true := (rpmAccepted_iff rpm).mpr ⟨hfinite, hpos⟩
  refine ⟨intervalOf s.params rpm, ?_, (portCommand_eq_run hh hp).trans (if_pos haccepted)⟩
  rw [intervalOf_toNat, floor_interval rpm hsign]

/-- Settles O37: the operand fails the test of `rpmAccepted_iff`. -/
theorem setspeedTurnsAwayWhatIsNotFinitePositive : Obligations.SetspeedTurnsAwayWhatIsNotFinitePositive := by
  intro rpm s hh hp hbad
  have hrefused : ¬ rpmAccepted rpm = true := by
    rw [rpmAccepted_iff, not_and_or, not_not, not_lt]
    exact hbad
  exact (portCommand_eq_run hh hp).trans (if_neg hrefused)

/-! ### No configuration command reads the display -/

/-- The same state with the buffer, cursors, sub-steps, phase and `underrun` of `d`. -/
def State.withDisplayOf (s d : State) : State :=
  { s with
    writeEnd := d.writeEnd, readFront := d.readFront, readBack := d.readBack, pixelStep := d.pixelStep,
    backStep := d.backStep, underrun := d.underrun, phaseIndex := d.phaseIndex, slots := d.slots }

/-- A transition that does not read the display and has a next state: with the display of `d` it does the same to the
rest and leaves that display as it is (R192). -/
def DisplayBlind (f : State → Host.Outcome State Fault Refusal) : Prop :=
  ∀ d s : State, ∃ t : State, f s = .next t ∧ f (s.withDisplayOf d) = .next (t.withDisplayOf d)

/-- An update that does not read the display, as a transition. -/
theorem DisplayBlind.of_update {g : State → State}
    (hg : ∀ d s : State, g (s.withDisplayOf d) = (g s).withDisplayOf d) : DisplayBlind (fun s => .next (g s)) :=
  fun d s => ⟨g s, rfl, congrArg Host.Outcome.next (hg d s)⟩

/-- The port's gate does not read the display. -/
theorem portCommand_displayBlind {run : State → Host.Outcome State Fault Refusal} (hrun : DisplayBlind run) :
    DisplayBlind (portCommand run) := by
  intro d s
  have hhalted : (s.withDisplayOf d).halted = s.halted := rfl
  have hstage : (s.withDisplayOf d).pushStage = s.pushStage := rfl
  simp only [portCommand, hhalted, hstage]
  split_ifs
  · exact ⟨_, rfl, rfl⟩
  · exact hrun d s
  · exact ⟨_, rfl, rfl⟩

/-- SETSPEED looks at its operand and the parameters alone (R184, R185). -/
theorem setSpeed_displayBlind (rpm : Arg) : DisplayBlind (setSpeed rpm) := by
  intro d s
  unfold setSpeed
  split_ifs
  · exact ⟨_, rfl, rfl⟩
  · exact ⟨_, rfl, rfl⟩

/-- No command but PUSH reads the display (R192). -/
theorem exec_displayBlind {i : Instr} (hi : i.isCommand = true) (hpush : ∀ c : Column, i ≠ .push c) :
    DisplayBlind (exec i) := by
  cases i with
  | push c => exact absurd rfl (hpush c)
  | setdir dneg => exact portCommand_displayBlind (.of_update fun _ _ => rfl)
  | sethl n => exact portCommand_displayBlind (.of_update fun _ _ => rfl)
  | setspeed rpm => exact portCommand_displayBlind (setSpeed_displayBlind rpm)
  | shutdown => exact portCommand_displayBlind (.of_update fun _ _ => rfl)
  | tick => cases hi
  | reset => cases hi

/-- A transition that leaves every display as it is leaves the state's own. -/
theorem DisplayBlind.withDisplayOf_self {f : State → Host.Outcome State Fault Refusal} {s t : State}
    (hf : DisplayBlind f) (h : f s = .next t) : t.withDisplayOf s = t := by
  obtain ⟨u, hu, hself⟩ := hf s s
  cases hu.symm.trans h
  exact Host.Outcome.next.inj (hself.symm.trans h)

/-- Settles O39: a configuration command is `DisplayBlind`, which says of the state's own display that it is kept. -/
theorem configurationLeavesTheDisplayAlone : Obligations.ConfigurationLeavesTheDisplayAlone := by
  intro i s d hi hpush
  have hblind := exec_displayBlind hi hpush
  obtain ⟨t, hrun, hother⟩ := hblind d s
  have hkept := hblind.withDisplayOf_self hrun
  refine ⟨t, hrun, hother, ?_⟩
  rw [← hkept]
  exact ⟨rfl, rfl, rfl, rfl, rfl, rfl, rfl, rfl⟩

end Sys2Proof.Machine
